-- ==== Sys2Proof/Word.lean ====
section
/-!
DEFINITION. The one word type of the machine. Every memory access moves a single byte (20_memory.md R56), and every
other quantity of the spec is a natural number (00_scope.md R10, R13), so a byte is the only word there is.
-/
namespace Sys2Proof

/-- A byte of the input, of the window or of the output (R50). -/
abbrev Byte := BitVec 8

end Sys2Proof
end

