-- ==== Sys2Proof/Machine/Bits.lean ====
section
/-!
DEFINITION. Bits and bit order: the bit stream of the input, raw fields least significant bit first, and the packing of
a bit string into bytes (00_scope.md R10, R11; 20_memory.md R51, R52; 30_encoding.md R88).
-/
namespace Sys2Proof.Machine

/-- Bit `k` of the bit stream `S`: bit `k mod 8` of `IN[k div 8]` (R11, R51). Beyond the input it is 0, and no rule
reads it there. -/
def streamBit (inp : List Byte) (k : Nat) : Bool :=
  (inp.getD (k / 8) 0).toNat.testBit (k % 8)

/-- A raw field: the first bit read is bit 0 of the value (R52). -/
def natOfBits : List Bool → Nat
  | [] => 0
  | b :: bs => b.toNat + 2 * natOfBits bs

/-- The `n` bits of a raw field that holds `v`, in stream order, least significant first (R52). -/
def rawBits (n v : Nat) : List Bool :=
  (List.range n).map v.testBit

/-- The `n` binary digits of `v`, most significant first. -/
def msbBits (n v : Nat) : List Bool :=
  (List.range n).map fun i => v.testBit (n - 1 - i)

/-- The value of the sum `sum over i < n of S[start + i] * 2^i` (R22, R101). -/
def streamField (inp : List Byte) (start n : Nat) : Nat :=
  natOfBits ((List.range n).map fun i => streamBit inp (start + i))

/-- Stream bits packed into `n` bytes, stream bit `k` into bit `k mod 8` of byte `k div 8`, missing bits 0 (R88). -/
def packBytes (bits : List Bool) : (n : Nat) → List Byte
  | 0 => []
  | n + 1 => BitVec.ofNat 8 (natOfBits (bits.take 8)) :: packBytes (bits.drop 8) n

end Sys2Proof.Machine
end

