-- ==== Sys2Proof/Machine/Types.lean ====
section
/-!
DEFINITION. The data types that the sub-blocks and the decoder share: the parts of the state (10_state.md R21 to R27)
and the reasons why reading an instruction can stop.
-/
namespace Sys2Proof.Machine

/-- The four decode failures (60_exceptions.md R200). The spec gives them codes 1 to 4, see `DecodeError.code`. -/
inductive DecodeError where
  /-- "bad coding-mode or dictionary-bits byte" (R201) -/
  | invalidHeader
  /-- "bit pattern matches no symbol" (R202) -/
  | invalidHuffmanCode
  /-- "bitstream truncated" (R203) -/
  | unexpectedEndOfInput
  /-- "back-reference exceeds available history" (R204) -/
  | corruptStream
  deriving DecidableEq, Repr

/-- The top-level state of the decoder (10_state.md R27, 43_decoder.md R160), see `Phase.code` for the numbers. -/
inductive Phase where
  | readHeader
  | decodeLoop
  | done
  | failed
  deriving DecidableEq, Repr

/-- The registers of the BitReader (10_state.md R21). -/
structure BitReader where
  /-- index of the next byte of `IN` not yet loaded into the accumulator -/
  cur : Nat
  /-- the bits loaded and not yet delivered, bit 0 the next to deliver -/
  acc : Nat
  /-- how many bits of `acc` are valid -/
  cnt : Nat
  deriving DecidableEq, Repr

/-- A constructed Huffman table (10_state.md R23). -/
structure HuffmanTable where
  /-- `count[L]` for `L = 1 .. 13`: entry `L - 1` is the number of symbols whose code has length `L` -/
  count : Vector Nat 13
  /-- the coded symbols by code length, and within one length by symbol index -/
  symbol : List Nat
  deriving DecidableEq, Repr

/-- The window's cells as (address, byte) pairs. Its one form is strictly rising addresses below 4096
(`Memory.wf`), and an address that is not listed holds no value (10_state.md R25, 42_window.md R140). -/
abbrev Memory := List Host.Cell

/-- The registers of the SlidingWindow (10_state.md R25). -/
structure SlidingWindow where
  /-- the history buffer `win` -/
  win : Memory
  /-- the current write position -/
  pos : Fin 4096
  /-- the one status flag: `pos` has returned to 0 (R26) -/
  wrapped : Bool
  deriving DecidableEq, Repr

/-- Why reading the fields of an instruction stops before the instruction is known. -/
inductive Stop where
  /-- a decode failure of the hardware, which the step takes as such (R206) -/
  | raise (e : DecodeError)
  /-- `bits(n)` with `n > 16`: outside the operation's domain (40_bitreader.md R105, U2) -/
  | bitsTooWide
  /-- a symbol of a table that was never constructed: "no rule reads it" (10_state.md R23) -/
  | tableNotBuilt
  /-- a table entry or symbol outside the alphabet: the tables are not well formed (00_scope.md R8) -/
  | symbolOutOfRange
  deriving DecidableEq, Repr

/-- Why a `read_back` gives no byte (42_window.md R142, R143, R145; U1, U6). -/
inductive ReadBackStop where
  /-- the history does not reach that far back (R143) -/
  | distanceTooFar
  /-- distance 0 or above 4096 (R145) -/
  | outOfDomain
  /-- the cell holds no value (R140) -/
  | noValue
  deriving DecidableEq, Repr

end Sys2Proof.Machine
end

