-- ==== Sys2Proof/Config.lean ====
section
/-!
DEFINITION. What the spec leaves to a parameter or leaves open: the shape of the table parameters (00_scope.md R6), and
the FREE VALUES, constants without a body that nothing can evaluate. The default bytes of the parameters stand in
Machine/Parameters.lean.
-/
namespace Sys2Proof.Config

open Sys2Proof.Machine

/-- The three packed specifications `LITLEN_SPEC`, `LENLEN_SPEC`, `DISTLEN_SPEC` (R6): named parameters of the model. -/
structure TableParams where
  litlen : List Byte
  lenlen : List Byte
  distlen : List Byte
  deriving DecidableEq, Repr

/-! After a failure "all state other than `phase` and `err` is undefined" (60_exceptions.md R206, D24, U7). Each
register then holds the free value of its name below, applied to the counter of draws (`State.draws`). DESIGN CHOICE,
notes/assumptions/6.md. -/

/-- FREE VALUE: `cur` after a failure. -/
opaque failedCur : Nat → Nat
/-- FREE VALUE: `acc` after a failure. -/
opaque failedAcc : Nat → Nat
/-- FREE VALUE: `cnt` after a failure. -/
opaque failedCnt : Nat → Nat
/-- FREE VALUE: the literal table after a failure. -/
opaque failedLitTable : Nat → Option HuffmanTable
/-- FREE VALUE: the length table after a failure. -/
opaque failedLenTable : Nat → Option HuffmanTable
/-- FREE VALUE: the distance table after a failure. -/
opaque failedDistTable : Nat → Option HuffmanTable
/-- FREE VALUE: window cell `a` after a failure, a byte or no value. -/
opaque failedCell : Nat → (a : Nat) → Option Byte
/-- FREE VALUE: `pos` after a failure. -/
opaque failedPos : Nat → Fin 4096
/-- FREE VALUE: `wrapped` after a failure. -/
opaque failedWrapped : Nat → Bool
/-- FREE VALUE: `lit` after a failure. -/
opaque failedLit : Nat → BitVec 1
/-- FREE VALUE: `dict_bits` after a failure. -/
opaque failedDictBits : Nat → BitVec 8
/-- FREE VALUE: `out` after a failure. -/
opaque failedOut : Nat → List Byte

end Sys2Proof.Config
end

