-- ==== Sys2Proof/Machine/Parameters.lean ====
section
/-!
DEFINITION. The parameters of the block: the fixed ones with the values the source gives (00_scope.md R5), and the three
packed specifications with the defaults of R6 (PRESUMED: the source does not give their bytes, notes/assumptions/4.md),
with the well-formedness that R8 asks of them.
-/
namespace Sys2Proof.Machine

/-- `WSIZE`, the capacity of the sliding window (R5). -/
def wsize : Nat := 4096

/-- `END_LENGTH`, the length value that ends the stream (R5). -/
def endLength : Nat := 519

/-- `LEN2_DIST_EXTRA`, the distance extra-bit count when the length is 2 (R5). -/
def len2DistExtra : Nat := 2

/-- `BITS_MAX`, the largest `n` of `bits(n)` (R5, R105). -/
def bitsMax : Nat := 16

/-- `BASE`, the base length of each length symbol (R5). -/
def base : List Nat := [3, 2, 4, 5, 6, 7, 8, 9, 10, 12, 16, 24, 40, 72, 136, 264]

/-- `EXTRA`, the count of raw extra bits of each length symbol (R5). -/
def extra : List Nat := [0, 0, 0, 0, 0, 0, 0, 0, 1, 2, 3, 4, 5, 6, 7, 8]

/-- Header byte 0 is a legal coding mode: 0 or 1 (R5, R161). -/
def legalLit (v : Byte) : Bool := v.toNat ≤ 1

/-- Header byte 1 is a legal `dict_bits`: `DICT_MIN` 4 to `DICT_MAX` 6 (R5, R161). -/
def legalDictBits (v : Byte) : Bool := 4 ≤ v.toNat && v.toNat ≤ 6

/-- The default `LITLEN_SPEC`, 98 bytes (R6). PRESUMED. -/
def litlenSpec : List Byte :=
  [11, 124, 8, 7, 28, 7, 188, 13, 76, 4, 10, 8, 12, 10, 12, 10] ++
  [8, 23, 8, 9, 7, 6, 7, 8, 7, 6, 55, 8, 23, 24, 12, 11] ++
  [7, 9, 11, 12, 6, 7, 22, 5, 7, 24, 6, 11, 9, 6, 7, 22] ++
  [7, 11, 38, 7, 9, 8, 25, 11, 8, 11, 9, 12, 8, 12, 5, 38] ++
  [5, 38, 5, 11, 7, 5, 6, 21, 6, 10, 53, 8, 7, 24, 10, 27] ++
  [44, 253, 253, 253, 252, 252, 252, 13, 12, 45, 12, 45, 12, 61, 12, 45] ++
  [44, 173]

/-- The default `LENLEN_SPEC`, 6 bytes (R6). PRESUMED. -/
def lenlenSpec : List Byte := [2, 35, 36, 53, 38, 23]

/-- The default `DISTLEN_SPEC`, 7 bytes (R6). PRESUMED. -/
def distlenSpec : List Byte := [2, 20, 53, 230, 247, 151, 248]

/-- The table parameters this machine is built with (R6). -/
def tableParams : Config.TableParams := ⟨litlenSpec, lenlenSpec, distlenSpec⟩

/-- `expand`: each byte stands for high nibble + 1 symbols whose code length is the low nibble (41_huffman.md R120). -/
def expand (P : List Byte) : List Nat :=
  P.flatMap fun b => List.replicate (b.toNat / 16 + 1) (b.toNat % 16)

/-- The table parameters are well formed (R8): lengths 0 to 13, at most 256 literal, 16 length and 64 distance
symbols. The machine has no meaning for others. -/
def wfParams (P : Config.TableParams) : Bool :=
  (expand P.litlen).all (· ≤ 13) && (expand P.lenlen).all (· ≤ 13) && (expand P.distlen).all (· ≤ 13) &&
    (expand P.lenlen).length ≤ 16 && (expand P.litlen).length ≤ 256 && (expand P.distlen).length ≤ 64

end Sys2Proof.Machine
end

