-- ==== Sys2Proof/Machine/BitReader.lean ====
section
/-!
DEFINITION. The BitReader (40_bitreader.md R100 to R106) in its register-level form (R102, D10).
-/
namespace Sys2Proof.Machine

/-- `BR.INIT` (R100). -/
def BitReader.init : BitReader := { cur := 0, acc := 0, cnt := 0 }

/-- The program counter: the bit position `8 * cur - cnt` (10_state.md R22). -/
def BitReader.bitpos (r : BitReader) : Nat := 8 * r.cur - r.cnt

/-- The refill loop of R102, `while cnt < n`, for at most `fuel` bytes: each byte goes above the bits already held, and
a fetch at the end of the input raises `UnexpectedEndOfInput` (R103). -/
def refill (inp : List Byte) (n : Nat) : (fuel : Nat) → BitReader → Except Stop BitReader
  | 0, r => .ok r
  | fuel + 1, r =>
    if r.cnt < n then
      match inp[r.cur]? with
      | none => .error (.raise .unexpectedEndOfInput)
      | some b => refill inp n fuel { cur := r.cur + 1, acc := r.acc ||| (b.toNat <<< r.cnt), cnt := r.cnt + 8 }
    else .ok r

/-- `bits(n)` (R101, R102): the next `n` bits, least significant first, and the reader after them. Two bytes are the
most a request can need, since `n ≤ 16`; larger `n` are outside the domain (R105, U2). -/
def bits (inp : List Byte) (n : Nat) (r : BitReader) : Except Stop (Nat × BitReader) :=
  if bitsMax < n then .error .bitsTooWide
  else
    match refill inp n 2 r with
    | .error e => .error e
    | .ok r => .ok (r.acc &&& (2 ^ n - 1), { cur := r.cur, acc := r.acc >>> n, cnt := r.cnt - n })

end Sys2Proof.Machine
end

