-- ==== Sys2Proof/Machine/Huffman.lean ====
section
/-!
DEFINITION. The HuffmanTable: construction (41_huffman.md R120 to R122, `expand` in Parameters.lean), symbol decode
(R123) and the code of a symbol (30_encoding.md R79).
-/
namespace Sys2Proof.Machine

/-- `count[L]`: how many symbols have code length `L` (R121). -/
def countOf (lens : List Nat) (L : Nat) : Nat := lens.count L

/-- The symbol indices of code length `L`, ascending (R122). -/
def symbolsOf (lens : List Nat) (L : Nat) : List Nat :=
  (List.range lens.length).filter fun s => lens.getD s 0 == L

/-- `HT.BUILD` (R121, R122): counts for lengths 1 to 13, and the coded symbols "sorted by (`lens[s]`, `s`)
ascending". -/
def buildTable (lens : List Nat) : HuffmanTable where
  count := Vector.ofFn fun i : Fin 13 => countOf lens (i.val + 1)
  symbol := (List.range 13).flatMap fun i => symbolsOf lens (i + 1)

/-- The literal table of a parameter choice (R162). -/
def buildLit (P : Config.TableParams) : HuffmanTable := buildTable (expand P.litlen)

/-- The length table of a parameter choice (R162). -/
def buildLen (P : Config.TableParams) : HuffmanTable := buildTable (expand P.lenlen)

/-- The distance table of a parameter choice (R162). -/
def buildDist (P : Config.TableParams) : HuffmanTable := buildTable (expand P.distlen)

/-- The loop of `decode(T)` (R123) over the counts that are left, from the values `code`, `first`, `index` have there:
one inverted bit enters `code` at bit 0 (90_conflicts.md C1), and a code below `first + count` is a symbol. -/
def decodeLoop (inp : List Byte) (symbol : List Nat) :
    (counts : List Nat) → (code first index : Nat) → BitReader → Except Stop (Nat × BitReader)
  | [], _, _, _, _ => .error (.raise .invalidHuffmanCode)
  | c :: cs, code, first, index, r =>
    match bits inp 1 r with
    | .error e => .error e
    | .ok (b, r) =>
      let code := code ||| (b ^^^ 1)
      if code < first + c then
        match symbol[index + (code - first)]? with
        | some s => .ok (s, r)
        | none => .error .symbolOutOfRange
      else decodeLoop inp symbol cs (code <<< 1) ((first + c) <<< 1) (index + c) r

/-- `decode(T)` (R123): the working values start at 0 for every symbol (10_state.md R24). -/
def decodeSymbol (T : HuffmanTable) (inp : List Byte) (r : BitReader) : Except Stop (Nat × BitReader) :=
  decodeLoop inp T.symbol T.count.toList 0 0 0 r

/-- The code of the symbol at place `j` of the symbol array, found from the counts that are left: length `L` and value
`first[L] + (j - index[L])` (R79). -/
def codeWalk (j : Nat) : (counts : List Nat) → (L first index : Nat) → Option (Nat × Nat)
  | [], _, _, _ => none
  | c :: cs, L, first, index =>
    if j < index + c then some (L, first + (j - index))
    else codeWalk j cs (L + 1) ((first + c) <<< 1) (index + c)

/-- The bit pattern of symbol `s` in the stream: the digits of its code, most significant first, each complemented
(R79). A symbol without a code has none. -/
def codeBits (T : HuffmanTable) (s : Nat) : Option (List Bool) :=
  match T.symbol.idxOf? s with
  | none => none
  | some j => (codeWalk j T.count.toList 1 0 0).map fun p => (msbBits p.1 p.2).map (!·)

end Sys2Proof.Machine
end

