-- ==== Sys2Proof/Machine/Operands.lean ====
section
/-!
DEFINITION. Operand assembly of a match (30_encoding.md R77, R78).
-/
namespace Sys2Proof.Machine

/-- `EXTRA[sym]`, the raw bits that follow a length code (R77). -/
def lengthExtra (sym : Fin 16) : Nat := extra.getD sym.val 0

/-- `length = BASE[sym] + xlen` (R77, 43_decoder.md R166). -/
def lengthOf (sym : Fin 16) (xlen : Nat) : Nat := base.getD sym.val 0 + xlen

/-- `k`: 2 when the length VALUE is 2, else `dict_bits` (R78, 43_decoder.md R168, 90_conflicts.md C3). -/
def distanceExtra (length : Nat) (dictBits : Byte) : Nat :=
  if length = 2 then len2DistExtra else dictBits.toNat

/-- `distance = (dsym << k) + xdist + 1` (R78, 43_decoder.md R168). -/
def distanceOf (dsym : Fin 64) (k xdist : Nat) : Nat := (dsym.val <<< k) + xdist + 1

end Sys2Proof.Machine
end

