-- ==== Sys2Proof/Machine/Flags.lean ====
section
/-!
DEFINITION. The one status flag, `wrapped` (10_state.md R26): what sets it and the check that reads it.
-/
namespace Sys2Proof.Machine

/-- The write position after a push: `(pos + 1) mod 4096` (42_window.md R141). -/
def posAfterPush (pos : Fin 4096) : Fin 4096 :=
  ⟨(pos.val + 1) % 4096, Nat.mod_lt _ (by decide)⟩

/-- `wrapped` after a push that leaves the write position at `pos`: set when `pos` is 0, never cleared (R141). -/
def wrappedAfterPush (wrapped : Bool) (pos : Fin 4096) : Bool :=
  wrapped || pos.val == 0

/-- The "distance too far" condition: not wrapped and `d > pos` (42_window.md R143, 43_decoder.md R169). -/
def distanceTooFar (w : SlidingWindow) (d : Nat) : Bool :=
  !w.wrapped && decide (w.pos.val < d)

end Sys2Proof.Machine
end

