-- ==== Sys2Proof/Machine/Window.lean ====
section
/-!
DEFINITION. The SlidingWindow (42_window.md R140 to R146) and the memory its cells are held in.
-/
namespace Sys2Proof.Machine

/-- The value of the cell at address `a`, none where it holds no value (10_state.md R25). -/
def Memory.read : Memory → Nat → Option Byte
  | [], _ => none
  | (x, b) :: m, a => if x = a then some b else Memory.read m a

/-- Write one cell, keeping the addresses strictly rising. -/
def Memory.write : Memory → Nat → Byte → Memory
  | [], a, b => [(a, b)]
  | (x, c) :: m, a, b =>
    if a < x then (a, b) :: (x, c) :: m
    else if a = x then (a, b) :: m
    else (x, c) :: Memory.write m a b

/-- The addresses rise strictly from `lo` on and stay below 4096. -/
def Memory.rising : (lo : Nat) → Memory → Bool
  | _, [] => true
  | lo, (x, _) :: m => decide (lo ≤ x) && decide (x < 4096) && Memory.rising (x + 1) m

/-- The one form of a memory: strictly rising addresses, all below 4096. No listed entry can equal what an unlisted
address reads as, for that is no value. -/
def Memory.wf (m : Memory) : Bool := Memory.rising 0 m

/-- The memory whose cell `a` is `f a`, for every `a` below 4096. -/
@[irreducible] def Memory.ofCells (f : Nat → Option Byte) : Memory :=
  (List.range 4096).filterMap fun a => (f a).map fun b => (a, b)

/-- `SW.INIT` (R140). -/
def SlidingWindow.init : SlidingWindow := { win := [], pos := 0, wrapped := false }

/-- `push(b)` (R141). -/
def push (b : Byte) (w : SlidingWindow) : SlidingWindow where
  win := Memory.write w.win w.pos.val b
  pos := posAfterPush w.pos
  wrapped := wrappedAfterPush w.wrapped (posAfterPush w.pos)

/-- The cell that `read_back(d)` reads: `(pos + 4096 - d) mod 4096` (R142). -/
def readBackAddr (pos : Fin 4096) (d : Nat) : Nat := (pos.val + 4096 - d) % 4096

/-- `read_back(d)` (R142): the history check (R143), the domain `1 .. 4096` (R145), then one cell. -/
def readBack (d : Nat) (w : SlidingWindow) : Except ReadBackStop Byte :=
  if distanceTooFar w d then .error .distanceTooFar
  else if d = 0 ∨ 4096 < d then .error .outOfDomain
  else
    match Memory.read w.win (readBackAddr w.pos d) with
    | some b => .ok b
    | none => .error .noValue

end Sys2Proof.Machine
end

