-- ==== Sys2Proof/Machine/State.lean ====
section
/-!
DEFINITION. The whole state of one decoder (10_state.md R20 to R34), the reasons a step can stop, and the machine after
reset (R33, 70_reset_and_hazards.md R230).
-/
namespace Sys2Proof.Machine

/-- Why the machine stops. -/
inductive Fault where
  /-- `step` in phase Done: the decode has ended and "no further step exists" (43_decoder.md R171). Raised by `step`
  alone. Safe: the state before it is the final state. -/
  | haltedDone
  /-- `step` in phase Failed: "there is no return from a failure" (60_exceptions.md R207). Raised by `step` alone.
  Safe, as above. -/
  | haltedFailed
  /-- a unit was to be read with a table that was never constructed, which no rule does (10_state.md R23). Raised by
  the fetch. Safe: no run from reset meets it. -/
  | tableNotBuilt
  /-- a window cell that holds no value was read (42_window.md R140, U1). Raised by the copy of a DIST row. Safe: the
  history check keeps every run from it (R143). -/
  | windowCellNoValue
  deriving DecidableEq, Repr

/-- What the machine gives no meaning to. -/
inductive Refusal where
  /-- the instruction has no meaning in the model yet; no arm of `exec` uses it. Safe. -/
  | notModelled (mnemonic : String)
  /-- the packed specifications are not well formed: "the model is not defined for that parameter choice (refused, not
  faulted)" (00_scope.md R8, U4). Raised by HDR. Safe. -/
  | tableParamsIllFormed
  /-- `bits(n)` with `n > 16` (40_bitreader.md R105, U2). Raised by the fetch. Safe. -/
  | bitsTooWide
  /-- a table gave a symbol outside its alphabet or pointed outside its symbol array (00_scope.md R8). Raised by the
  fetch. Safe. -/
  | symbolOutOfRange
  /-- `read_back` with distance 0 or above 4096 (42_window.md R145, U6). Raised by the copy of a DIST row. Safe. -/
  | readBackOutOfDomain
  /-- a DIST row where no match length was read: the row exists only "inside a MATCH unit, after the length fields"
  (spec/opcode_table.json). Raised by DIST rows; the fetch never reads one there. Safe. -/
  | noMatchInProgress
  deriving DecidableEq, Repr

/-- The state of one decoder instance. INVENTORY.md lists each field with its rule. -/
structure State where
  /-- the input `IN`, an argument of the decode that no step writes (R9, R34, R63) -/
  inp : List Byte
  /-- `cur`, `acc`, `cnt` (R21) -/
  br : BitReader
  /-- the literal table, or not constructed (R23) -/
  litTable : Option HuffmanTable
  /-- the length table, or not constructed (R23) -/
  lenTable : Option HuffmanTable
  /-- the distance table, or not constructed (R23) -/
  distTable : Option HuffmanTable
  /-- `win`, `pos`, `wrapped` (R25, R26) -/
  sw : SlidingWindow
  /-- the coding mode, the one bit kept of header byte 0 (R27) -/
  lit : BitVec 1
  /-- header byte 1 (R27) -/
  dictBits : BitVec 8
  /-- the top-level state (R27) -/
  phase : Phase
  /-- the failure, none while there is none (R27) -/
  err : Option DecodeError
  /-- the accumulated output sequence (R29) -/
  out : List Byte
  /-- MODEL'S OWN: the length of the match whose distance part comes next, none at a unit boundary
  (notes/assumptions/1.md) -/
  matchLen : Option Nat
  /-- MODEL'S OWN: how many times free values were drawn (notes/assumptions/6.md) -/
  draws : Nat
  deriving DecidableEq, Repr

/-- The number of a phase (R27, D4). -/
def Phase.code : Phase → BitVec 2
  | .readHeader => 0
  | .decodeLoop => 1
  | .done => 2
  | .failed => 3

/-- The number of a failure (60_exceptions.md R200, D5). -/
def DecodeError.code : DecodeError → BitVec 3
  | .invalidHeader => 1
  | .invalidHuffmanCode => 2
  | .unexpectedEndOfInput => 3
  | .corruptStream => 4

/-- The register `err` as a number, 0 for none (R27). -/
def State.errCode (s : State) : BitVec 3 := (s.err.map DecodeError.code).getD 0

/-- The program counter `bitpos` (R22). -/
def State.bitpos (s : State) : Nat := s.br.bitpos

/-- The machine right after reset (R33), with no input loaded. `lit` and `dictBits` have "no value" until the header
step: DESIGN CHOICE 0 (notes/assumptions/2.md, notes/assumptions/3.md). -/
def State.reset : State where
  inp := []
  br := { cur := 0, acc := 0, cnt := 0 }
  litTable := none
  lenTable := none
  distTable := none
  sw := { win := [], pos := 0, wrapped := false }
  lit := 0
  dictBits := 0
  phase := .readHeader
  err := none
  out := []
  matchLen := none
  draws := 0

end Sys2Proof.Machine
end

