-- ==== Sys2Proof/Machine/Ops.lean ====
section
/-!
DEFINITION. The named operations over the state: the host's actions, taking a failure, emitting a byte, and what the
header, the length and the distance of a match do.
-/
namespace Sys2Proof.Machine

/-! ## The host's actions -/

/-- Load the input and apply reset (70_reset_and_hazards.md R231). -/
def State.start (inp : List Byte) : State := { State.reset with inp := inp }

/-- Reset in any phase (R230): nothing but the input, which is not the decoder's state, survives. -/
def State.hostReset (s : State) : State := State.start s.inp

/-- The outcome of a decode (00_scope.md R14): the output in Done, the failure in Failed, none before. -/
def State.outcome (s : State) : Option (Except DecodeError (List Byte)) :=
  match s.phase with
  | .readHeader => none
  | .decodeLoop => none
  | .done => some (.ok s.out)
  | .failed => s.err.map .error

/-! ## Taking an exception -/

/-- Failure entry (60_exceptions.md R206): `err` and `phase` are written, and "all state other than `phase` and `err` is
undefined": each register holds a free value (Config.lean). The input is no register and stays (R34). There is no return
from a failure (R207). -/
def raise (e : DecodeError) (s : State) : State where
  inp := s.inp
  br := { cur := Config.failedCur s.draws, acc := Config.failedAcc s.draws, cnt := Config.failedCnt s.draws }
  litTable := Config.failedLitTable s.draws
  lenTable := Config.failedLenTable s.draws
  distTable := Config.failedDistTable s.draws
  sw := { win := Memory.ofCells (Config.failedCell s.draws), pos := Config.failedPos s.draws,
          wrapped := Config.failedWrapped s.draws }
  lit := Config.failedLit s.draws
  dictBits := Config.failedDictBits s.draws
  phase := .failed
  err := some e
  out := Config.failedOut s.draws
  matchLen := none
  draws := s.draws + 1

/-! ## The units -/

/-- Append a byte to the output and push it to the window (43_decoder.md R164, R165, R170). -/
def emit (b : Byte) (s : State) : State := { s with out := s.out ++ [b], sw := push b s.sw }

/-- The end of the stream (R167). -/
def finish (s : State) : State := { s with phase := .done }

/-- The effect of a legal header (R161, R162): the mode bytes are stored, the tables built, the decode loop entered. -/
def loadHeader (P : Config.TableParams) (lit dictBits : Byte) (s : State) : State :=
  { s with
    lit := lit.setWidth 1
    dictBits := dictBits
    litTable := if lit = 1 then some (buildLit P) else s.litTable
    lenTable := some (buildLen P)
    distTable := some (buildDist P)
    phase := .decodeLoop }

/-- The header step on two bytes (R161): an illegal byte raises `InvalidHeader`; table parameters that are not well
formed have no meaning (00_scope.md R8). -/
def takeHeader (P : Config.TableParams) (lit dictBits : Byte) (s : State) : Host.Outcome State Fault Refusal :=
  if !legalLit lit || !legalDictBits dictBits then .next (raise .invalidHeader s)
  else if !wfParams P then .refused .tableParamsIllFormed
  else .next (loadHeader P lit dictBits s)

/-- What a length does (R166): 519 ends the stream (R167), any other length waits for its distance. -/
def takeLength (length : Nat) (s : State) : State :=
  if length = endLength then finish s else { s with matchLen := some length }

/-- The copy (R170): `n` times read back, append, push, one byte after the other (20_memory.md R59, R233). A stop of
`read_back` cannot happen after the validation (R169); the decoder reports a distance that is too far as
`CorruptStream` (R204). -/
def copyBytes (d : Nat) : (n : Nat) → State → Host.Outcome State Fault Refusal
  | 0, s => .next s
  | n + 1, s =>
    match readBack d s.sw with
    | .ok b => copyBytes d n (emit b s)
    | .error .distanceTooFar => .next (raise .corruptStream s)
    | .error .outOfDomain => .refused .readBackOutOfDomain
    | .error .noValue => .fault .windowCellNoValue

/-- What a distance does (R168 to R170): assemble it with the `k` of the match in progress, validate it once against the
history, then copy; the unit is over. -/
def takeDistance (dsym : Fin 64) (xdist : Nat) (s : State) : Host.Outcome State Fault Refusal :=
  match s.matchLen with
  | none => .refused .noMatchInProgress
  | some length =>
    let d := distanceOf dsym (distanceExtra length s.dictBits) xdist
    if distanceTooFar s.sw d then .next (raise .corruptStream s)
    else copyBytes d length { s with matchLen := none }

end Sys2Proof.Machine
end

