-- ==== Sys2Proof/Machine/Distance.lean ====
section
/-!
DEFINITION. The distance part of a match, DIST.D0 to DIST.D63 (43_decoder.md R168 to R170): assemble the distance,
validate it, copy.
-/
namespace Sys2Proof.Machine

/-! DIST.D<dsym>: the copy of R170 at the distance of R168, after the validation of R169. -/

def execDistD0 (xdist : Nat) (s : State) : Host.Outcome State Fault Refusal := takeDistance 0 xdist s
def execDistD1 (xdist : Nat) (s : State) : Host.Outcome State Fault Refusal := takeDistance 1 xdist s
def execDistD2 (xdist : Nat) (s : State) : Host.Outcome State Fault Refusal := takeDistance 2 xdist s
def execDistD3 (xdist : Nat) (s : State) : Host.Outcome State Fault Refusal := takeDistance 3 xdist s
def execDistD4 (xdist : Nat) (s : State) : Host.Outcome State Fault Refusal := takeDistance 4 xdist s
def execDistD5 (xdist : Nat) (s : State) : Host.Outcome State Fault Refusal := takeDistance 5 xdist s
def execDistD6 (xdist : Nat) (s : State) : Host.Outcome State Fault Refusal := takeDistance 6 xdist s
def execDistD7 (xdist : Nat) (s : State) : Host.Outcome State Fault Refusal := takeDistance 7 xdist s
def execDistD8 (xdist : Nat) (s : State) : Host.Outcome State Fault Refusal := takeDistance 8 xdist s
def execDistD9 (xdist : Nat) (s : State) : Host.Outcome State Fault Refusal := takeDistance 9 xdist s
def execDistD10 (xdist : Nat) (s : State) : Host.Outcome State Fault Refusal := takeDistance 10 xdist s
def execDistD11 (xdist : Nat) (s : State) : Host.Outcome State Fault Refusal := takeDistance 11 xdist s
def execDistD12 (xdist : Nat) (s : State) : Host.Outcome State Fault Refusal := takeDistance 12 xdist s
def execDistD13 (xdist : Nat) (s : State) : Host.Outcome State Fault Refusal := takeDistance 13 xdist s
def execDistD14 (xdist : Nat) (s : State) : Host.Outcome State Fault Refusal := takeDistance 14 xdist s
def execDistD15 (xdist : Nat) (s : State) : Host.Outcome State Fault Refusal := takeDistance 15 xdist s
def execDistD16 (xdist : Nat) (s : State) : Host.Outcome State Fault Refusal := takeDistance 16 xdist s
def execDistD17 (xdist : Nat) (s : State) : Host.Outcome State Fault Refusal := takeDistance 17 xdist s
def execDistD18 (xdist : Nat) (s : State) : Host.Outcome State Fault Refusal := takeDistance 18 xdist s
def execDistD19 (xdist : Nat) (s : State) : Host.Outcome State Fault Refusal := takeDistance 19 xdist s
def execDistD20 (xdist : Nat) (s : State) : Host.Outcome State Fault Refusal := takeDistance 20 xdist s
def execDistD21 (xdist : Nat) (s : State) : Host.Outcome State Fault Refusal := takeDistance 21 xdist s
def execDistD22 (xdist : Nat) (s : State) : Host.Outcome State Fault Refusal := takeDistance 22 xdist s
def execDistD23 (xdist : Nat) (s : State) : Host.Outcome State Fault Refusal := takeDistance 23 xdist s
def execDistD24 (xdist : Nat) (s : State) : Host.Outcome State Fault Refusal := takeDistance 24 xdist s
def execDistD25 (xdist : Nat) (s : State) : Host.Outcome State Fault Refusal := takeDistance 25 xdist s
def execDistD26 (xdist : Nat) (s : State) : Host.Outcome State Fault Refusal := takeDistance 26 xdist s
def execDistD27 (xdist : Nat) (s : State) : Host.Outcome State Fault Refusal := takeDistance 27 xdist s
def execDistD28 (xdist : Nat) (s : State) : Host.Outcome State Fault Refusal := takeDistance 28 xdist s
def execDistD29 (xdist : Nat) (s : State) : Host.Outcome State Fault Refusal := takeDistance 29 xdist s
def execDistD30 (xdist : Nat) (s : State) : Host.Outcome State Fault Refusal := takeDistance 30 xdist s
def execDistD31 (xdist : Nat) (s : State) : Host.Outcome State Fault Refusal := takeDistance 31 xdist s
def execDistD32 (xdist : Nat) (s : State) : Host.Outcome State Fault Refusal := takeDistance 32 xdist s
def execDistD33 (xdist : Nat) (s : State) : Host.Outcome State Fault Refusal := takeDistance 33 xdist s
def execDistD34 (xdist : Nat) (s : State) : Host.Outcome State Fault Refusal := takeDistance 34 xdist s
def execDistD35 (xdist : Nat) (s : State) : Host.Outcome State Fault Refusal := takeDistance 35 xdist s
def execDistD36 (xdist : Nat) (s : State) : Host.Outcome State Fault Refusal := takeDistance 36 xdist s
def execDistD37 (xdist : Nat) (s : State) : Host.Outcome State Fault Refusal := takeDistance 37 xdist s
def execDistD38 (xdist : Nat) (s : State) : Host.Outcome State Fault Refusal := takeDistance 38 xdist s
def execDistD39 (xdist : Nat) (s : State) : Host.Outcome State Fault Refusal := takeDistance 39 xdist s
def execDistD40 (xdist : Nat) (s : State) : Host.Outcome State Fault Refusal := takeDistance 40 xdist s
def execDistD41 (xdist : Nat) (s : State) : Host.Outcome State Fault Refusal := takeDistance 41 xdist s
def execDistD42 (xdist : Nat) (s : State) : Host.Outcome State Fault Refusal := takeDistance 42 xdist s
def execDistD43 (xdist : Nat) (s : State) : Host.Outcome State Fault Refusal := takeDistance 43 xdist s
def execDistD44 (xdist : Nat) (s : State) : Host.Outcome State Fault Refusal := takeDistance 44 xdist s
def execDistD45 (xdist : Nat) (s : State) : Host.Outcome State Fault Refusal := takeDistance 45 xdist s
def execDistD46 (xdist : Nat) (s : State) : Host.Outcome State Fault Refusal := takeDistance 46 xdist s
def execDistD47 (xdist : Nat) (s : State) : Host.Outcome State Fault Refusal := takeDistance 47 xdist s
def execDistD48 (xdist : Nat) (s : State) : Host.Outcome State Fault Refusal := takeDistance 48 xdist s
def execDistD49 (xdist : Nat) (s : State) : Host.Outcome State Fault Refusal := takeDistance 49 xdist s
def execDistD50 (xdist : Nat) (s : State) : Host.Outcome State Fault Refusal := takeDistance 50 xdist s
def execDistD51 (xdist : Nat) (s : State) : Host.Outcome State Fault Refusal := takeDistance 51 xdist s
def execDistD52 (xdist : Nat) (s : State) : Host.Outcome State Fault Refusal := takeDistance 52 xdist s
def execDistD53 (xdist : Nat) (s : State) : Host.Outcome State Fault Refusal := takeDistance 53 xdist s
def execDistD54 (xdist : Nat) (s : State) : Host.Outcome State Fault Refusal := takeDistance 54 xdist s
def execDistD55 (xdist : Nat) (s : State) : Host.Outcome State Fault Refusal := takeDistance 55 xdist s
def execDistD56 (xdist : Nat) (s : State) : Host.Outcome State Fault Refusal := takeDistance 56 xdist s
def execDistD57 (xdist : Nat) (s : State) : Host.Outcome State Fault Refusal := takeDistance 57 xdist s
def execDistD58 (xdist : Nat) (s : State) : Host.Outcome State Fault Refusal := takeDistance 58 xdist s
def execDistD59 (xdist : Nat) (s : State) : Host.Outcome State Fault Refusal := takeDistance 59 xdist s
def execDistD60 (xdist : Nat) (s : State) : Host.Outcome State Fault Refusal := takeDistance 60 xdist s
def execDistD61 (xdist : Nat) (s : State) : Host.Outcome State Fault Refusal := takeDistance 61 xdist s
def execDistD62 (xdist : Nat) (s : State) : Host.Outcome State Fault Refusal := takeDistance 62 xdist s
def execDistD63 (xdist : Nat) (s : State) : Host.Outcome State Fault Refusal := takeDistance 63 xdist s

end Sys2Proof.Machine
end

