-- ==== Sys2Proof/Machine/Header.lean ====
section
/-!
DEFINITION. The header unit HDR (43_decoder.md R161, R162).
-/
namespace Sys2Proof.Machine

/-- HDR (R161): the header step on the two bytes read, with the tables of this machine. -/
def execHdr (lit dictBits : BitVec 8) (s : State) : Host.Outcome State Fault Refusal :=
  takeHeader tableParams lit dictBits s

end Sys2Proof.Machine
end

