-- ==== Sys2Proof/Machine/Literal.lean ====
section
/-!
DEFINITION. The literal units LIT.RAW (43_decoder.md R164) and LIT.HUF_0x00 to LIT.HUF_0xFF (R165): each emits one byte
to the output and to the window.
-/
namespace Sys2Proof.Machine

/-- LIT.RAW (R164): emit the byte of the field. -/
def execLitRaw (b : BitVec 8) (s : State) : Host.Outcome State Fault Refusal := .next (emit b s)

/-! LIT.HUF (R165): "The symbol index is the byte." -/

def execLitHuf00 (s : State) : Host.Outcome State Fault Refusal := .next (emit 0x00 s)
def execLitHuf01 (s : State) : Host.Outcome State Fault Refusal := .next (emit 0x01 s)
def execLitHuf02 (s : State) : Host.Outcome State Fault Refusal := .next (emit 0x02 s)
def execLitHuf03 (s : State) : Host.Outcome State Fault Refusal := .next (emit 0x03 s)
def execLitHuf04 (s : State) : Host.Outcome State Fault Refusal := .next (emit 0x04 s)
def execLitHuf05 (s : State) : Host.Outcome State Fault Refusal := .next (emit 0x05 s)
def execLitHuf06 (s : State) : Host.Outcome State Fault Refusal := .next (emit 0x06 s)
def execLitHuf07 (s : State) : Host.Outcome State Fault Refusal := .next (emit 0x07 s)
def execLitHuf08 (s : State) : Host.Outcome State Fault Refusal := .next (emit 0x08 s)
def execLitHuf09 (s : State) : Host.Outcome State Fault Refusal := .next (emit 0x09 s)
def execLitHuf0A (s : State) : Host.Outcome State Fault Refusal := .next (emit 0x0A s)
def execLitHuf0B (s : State) : Host.Outcome State Fault Refusal := .next (emit 0x0B s)
def execLitHuf0C (s : State) : Host.Outcome State Fault Refusal := .next (emit 0x0C s)
def execLitHuf0D (s : State) : Host.Outcome State Fault Refusal := .next (emit 0x0D s)
def execLitHuf0E (s : State) : Host.Outcome State Fault Refusal := .next (emit 0x0E s)
def execLitHuf0F (s : State) : Host.Outcome State Fault Refusal := .next (emit 0x0F s)
def execLitHuf10 (s : State) : Host.Outcome State Fault Refusal := .next (emit 0x10 s)
def execLitHuf11 (s : State) : Host.Outcome State Fault Refusal := .next (emit 0x11 s)
def execLitHuf12 (s : State) : Host.Outcome State Fault Refusal := .next (emit 0x12 s)
def execLitHuf13 (s : State) : Host.Outcome State Fault Refusal := .next (emit 0x13 s)
def execLitHuf14 (s : State) : Host.Outcome State Fault Refusal := .next (emit 0x14 s)
def execLitHuf15 (s : State) : Host.Outcome State Fault Refusal := .next (emit 0x15 s)
def execLitHuf16 (s : State) : Host.Outcome State Fault Refusal := .next (emit 0x16 s)
def execLitHuf17 (s : State) : Host.Outcome State Fault Refusal := .next (emit 0x17 s)
def execLitHuf18 (s : State) : Host.Outcome State Fault Refusal := .next (emit 0x18 s)
def execLitHuf19 (s : State) : Host.Outcome State Fault Refusal := .next (emit 0x19 s)
def execLitHuf1A (s : State) : Host.Outcome State Fault Refusal := .next (emit 0x1A s)
def execLitHuf1B (s : State) : Host.Outcome State Fault Refusal := .next (emit 0x1B s)
def execLitHuf1C (s : State) : Host.Outcome State Fault Refusal := .next (emit 0x1C s)
def execLitHuf1D (s : State) : Host.Outcome State Fault Refusal := .next (emit 0x1D s)
def execLitHuf1E (s : State) : Host.Outcome State Fault Refusal := .next (emit 0x1E s)
def execLitHuf1F (s : State) : Host.Outcome State Fault Refusal := .next (emit 0x1F s)
def execLitHuf20 (s : State) : Host.Outcome State Fault Refusal := .next (emit 0x20 s)
def execLitHuf21 (s : State) : Host.Outcome State Fault Refusal := .next (emit 0x21 s)
def execLitHuf22 (s : State) : Host.Outcome State Fault Refusal := .next (emit 0x22 s)
def execLitHuf23 (s : State) : Host.Outcome State Fault Refusal := .next (emit 0x23 s)
def execLitHuf24 (s : State) : Host.Outcome State Fault Refusal := .next (emit 0x24 s)
def execLitHuf25 (s : State) : Host.Outcome State Fault Refusal := .next (emit 0x25 s)
def execLitHuf26 (s : State) : Host.Outcome State Fault Refusal := .next (emit 0x26 s)
def execLitHuf27 (s : State) : Host.Outcome State Fault Refusal := .next (emit 0x27 s)
def execLitHuf28 (s : State) : Host.Outcome State Fault Refusal := .next (emit 0x28 s)
def execLitHuf29 (s : State) : Host.Outcome State Fault Refusal := .next (emit 0x29 s)
def execLitHuf2A (s : State) : Host.Outcome State Fault Refusal := .next (emit 0x2A s)
def execLitHuf2B (s : State) : Host.Outcome State Fault Refusal := .next (emit 0x2B s)
def execLitHuf2C (s : State) : Host.Outcome State Fault Refusal := .next (emit 0x2C s)
def execLitHuf2D (s : State) : Host.Outcome State Fault Refusal := .next (emit 0x2D s)
def execLitHuf2E (s : State) : Host.Outcome State Fault Refusal := .next (emit 0x2E s)
def execLitHuf2F (s : State) : Host.Outcome State Fault Refusal := .next (emit 0x2F s)
def execLitHuf30 (s : State) : Host.Outcome State Fault Refusal := .next (emit 0x30 s)
def execLitHuf31 (s : State) : Host.Outcome State Fault Refusal := .next (emit 0x31 s)
def execLitHuf32 (s : State) : Host.Outcome State Fault Refusal := .next (emit 0x32 s)
def execLitHuf33 (s : State) : Host.Outcome State Fault Refusal := .next (emit 0x33 s)
def execLitHuf34 (s : State) : Host.Outcome State Fault Refusal := .next (emit 0x34 s)
def execLitHuf35 (s : State) : Host.Outcome State Fault Refusal := .next (emit 0x35 s)
def execLitHuf36 (s : State) : Host.Outcome State Fault Refusal := .next (emit 0x36 s)
def execLitHuf37 (s : State) : Host.Outcome State Fault Refusal := .next (emit 0x37 s)
def execLitHuf38 (s : State) : Host.Outcome State Fault Refusal := .next (emit 0x38 s)
def execLitHuf39 (s : State) : Host.Outcome State Fault Refusal := .next (emit 0x39 s)
def execLitHuf3A (s : State) : Host.Outcome State Fault Refusal := .next (emit 0x3A s)
def execLitHuf3B (s : State) : Host.Outcome State Fault Refusal := .next (emit 0x3B s)
def execLitHuf3C (s : State) : Host.Outcome State Fault Refusal := .next (emit 0x3C s)
def execLitHuf3D (s : State) : Host.Outcome State Fault Refusal := .next (emit 0x3D s)
def execLitHuf3E (s : State) : Host.Outcome State Fault Refusal := .next (emit 0x3E s)
def execLitHuf3F (s : State) : Host.Outcome State Fault Refusal := .next (emit 0x3F s)
def execLitHuf40 (s : State) : Host.Outcome State Fault Refusal := .next (emit 0x40 s)
def execLitHuf41 (s : State) : Host.Outcome State Fault Refusal := .next (emit 0x41 s)
def execLitHuf42 (s : State) : Host.Outcome State Fault Refusal := .next (emit 0x42 s)
def execLitHuf43 (s : State) : Host.Outcome State Fault Refusal := .next (emit 0x43 s)
def execLitHuf44 (s : State) : Host.Outcome State Fault Refusal := .next (emit 0x44 s)
def execLitHuf45 (s : State) : Host.Outcome State Fault Refusal := .next (emit 0x45 s)
def execLitHuf46 (s : State) : Host.Outcome State Fault Refusal := .next (emit 0x46 s)
def execLitHuf47 (s : State) : Host.Outcome State Fault Refusal := .next (emit 0x47 s)
def execLitHuf48 (s : State) : Host.Outcome State Fault Refusal := .next (emit 0x48 s)
def execLitHuf49 (s : State) : Host.Outcome State Fault Refusal := .next (emit 0x49 s)
def execLitHuf4A (s : State) : Host.Outcome State Fault Refusal := .next (emit 0x4A s)
def execLitHuf4B (s : State) : Host.Outcome State Fault Refusal := .next (emit 0x4B s)
def execLitHuf4C (s : State) : Host.Outcome State Fault Refusal := .next (emit 0x4C s)
def execLitHuf4D (s : State) : Host.Outcome State Fault Refusal := .next (emit 0x4D s)
def execLitHuf4E (s : State) : Host.Outcome State Fault Refusal := .next (emit 0x4E s)
def execLitHuf4F (s : State) : Host.Outcome State Fault Refusal := .next (emit 0x4F s)
def execLitHuf50 (s : State) : Host.Outcome State Fault Refusal := .next (emit 0x50 s)
def execLitHuf51 (s : State) : Host.Outcome State Fault Refusal := .next (emit 0x51 s)
def execLitHuf52 (s : State) : Host.Outcome State Fault Refusal := .next (emit 0x52 s)
def execLitHuf53 (s : State) : Host.Outcome State Fault Refusal := .next (emit 0x53 s)
def execLitHuf54 (s : State) : Host.Outcome State Fault Refusal := .next (emit 0x54 s)
def execLitHuf55 (s : State) : Host.Outcome State Fault Refusal := .next (emit 0x55 s)
def execLitHuf56 (s : State) : Host.Outcome State Fault Refusal := .next (emit 0x56 s)
def execLitHuf57 (s : State) : Host.Outcome State Fault Refusal := .next (emit 0x57 s)
def execLitHuf58 (s : State) : Host.Outcome State Fault Refusal := .next (emit 0x58 s)
def execLitHuf59 (s : State) : Host.Outcome State Fault Refusal := .next (emit 0x59 s)
def execLitHuf5A (s : State) : Host.Outcome State Fault Refusal := .next (emit 0x5A s)
def execLitHuf5B (s : State) : Host.Outcome State Fault Refusal := .next (emit 0x5B s)
def execLitHuf5C (s : State) : Host.Outcome State Fault Refusal := .next (emit 0x5C s)
def execLitHuf5D (s : State) : Host.Outcome State Fault Refusal := .next (emit 0x5D s)
def execLitHuf5E (s : State) : Host.Outcome State Fault Refusal := .next (emit 0x5E s)
def execLitHuf5F (s : State) : Host.Outcome State Fault Refusal := .next (emit 0x5F s)
def execLitHuf60 (s : State) : Host.Outcome State Fault Refusal := .next (emit 0x60 s)
def execLitHuf61 (s : State) : Host.Outcome State Fault Refusal := .next (emit 0x61 s)
def execLitHuf62 (s : State) : Host.Outcome State Fault Refusal := .next (emit 0x62 s)
def execLitHuf63 (s : State) : Host.Outcome State Fault Refusal := .next (emit 0x63 s)
def execLitHuf64 (s : State) : Host.Outcome State Fault Refusal := .next (emit 0x64 s)
def execLitHuf65 (s : State) : Host.Outcome State Fault Refusal := .next (emit 0x65 s)
def execLitHuf66 (s : State) : Host.Outcome State Fault Refusal := .next (emit 0x66 s)
def execLitHuf67 (s : State) : Host.Outcome State Fault Refusal := .next (emit 0x67 s)
def execLitHuf68 (s : State) : Host.Outcome State Fault Refusal := .next (emit 0x68 s)
def execLitHuf69 (s : State) : Host.Outcome State Fault Refusal := .next (emit 0x69 s)
def execLitHuf6A (s : State) : Host.Outcome State Fault Refusal := .next (emit 0x6A s)
def execLitHuf6B (s : State) : Host.Outcome State Fault Refusal := .next (emit 0x6B s)
def execLitHuf6C (s : State) : Host.Outcome State Fault Refusal := .next (emit 0x6C s)
def execLitHuf6D (s : State) : Host.Outcome State Fault Refusal := .next (emit 0x6D s)
def execLitHuf6E (s : State) : Host.Outcome State Fault Refusal := .next (emit 0x6E s)
def execLitHuf6F (s : State) : Host.Outcome State Fault Refusal := .next (emit 0x6F s)
def execLitHuf70 (s : State) : Host.Outcome State Fault Refusal := .next (emit 0x70 s)
def execLitHuf71 (s : State) : Host.Outcome State Fault Refusal := .next (emit 0x71 s)
def execLitHuf72 (s : State) : Host.Outcome State Fault Refusal := .next (emit 0x72 s)
def execLitHuf73 (s : State) : Host.Outcome State Fault Refusal := .next (emit 0x73 s)
def execLitHuf74 (s : State) : Host.Outcome State Fault Refusal := .next (emit 0x74 s)
def execLitHuf75 (s : State) : Host.Outcome State Fault Refusal := .next (emit 0x75 s)
def execLitHuf76 (s : State) : Host.Outcome State Fault Refusal := .next (emit 0x76 s)
def execLitHuf77 (s : State) : Host.Outcome State Fault Refusal := .next (emit 0x77 s)
def execLitHuf78 (s : State) : Host.Outcome State Fault Refusal := .next (emit 0x78 s)
def execLitHuf79 (s : State) : Host.Outcome State Fault Refusal := .next (emit 0x79 s)
def execLitHuf7A (s : State) : Host.Outcome State Fault Refusal := .next (emit 0x7A s)
def execLitHuf7B (s : State) : Host.Outcome State Fault Refusal := .next (emit 0x7B s)
def execLitHuf7C (s : State) : Host.Outcome State Fault Refusal := .next (emit 0x7C s)
def execLitHuf7D (s : State) : Host.Outcome State Fault Refusal := .next (emit 0x7D s)
def execLitHuf7E (s : State) : Host.Outcome State Fault Refusal := .next (emit 0x7E s)
def execLitHuf7F (s : State) : Host.Outcome State Fault Refusal := .next (emit 0x7F s)
def execLitHuf80 (s : State) : Host.Outcome State Fault Refusal := .next (emit 0x80 s)
def execLitHuf81 (s : State) : Host.Outcome State Fault Refusal := .next (emit 0x81 s)
def execLitHuf82 (s : State) : Host.Outcome State Fault Refusal := .next (emit 0x82 s)
def execLitHuf83 (s : State) : Host.Outcome State Fault Refusal := .next (emit 0x83 s)
def execLitHuf84 (s : State) : Host.Outcome State Fault Refusal := .next (emit 0x84 s)
def execLitHuf85 (s : State) : Host.Outcome State Fault Refusal := .next (emit 0x85 s)
def execLitHuf86 (s : State) : Host.Outcome State Fault Refusal := .next (emit 0x86 s)
def execLitHuf87 (s : State) : Host.Outcome State Fault Refusal := .next (emit 0x87 s)
def execLitHuf88 (s : State) : Host.Outcome State Fault Refusal := .next (emit 0x88 s)
def execLitHuf89 (s : State) : Host.Outcome State Fault Refusal := .next (emit 0x89 s)
def execLitHuf8A (s : State) : Host.Outcome State Fault Refusal := .next (emit 0x8A s)
def execLitHuf8B (s : State) : Host.Outcome State Fault Refusal := .next (emit 0x8B s)
def execLitHuf8C (s : State) : Host.Outcome State Fault Refusal := .next (emit 0x8C s)
def execLitHuf8D (s : State) : Host.Outcome State Fault Refusal := .next (emit 0x8D s)
def execLitHuf8E (s : State) : Host.Outcome State Fault Refusal := .next (emit 0x8E s)
def execLitHuf8F (s : State) : Host.Outcome State Fault Refusal := .next (emit 0x8F s)
def execLitHuf90 (s : State) : Host.Outcome State Fault Refusal := .next (emit 0x90 s)
def execLitHuf91 (s : State) : Host.Outcome State Fault Refusal := .next (emit 0x91 s)
def execLitHuf92 (s : State) : Host.Outcome State Fault Refusal := .next (emit 0x92 s)
def execLitHuf93 (s : State) : Host.Outcome State Fault Refusal := .next (emit 0x93 s)
def execLitHuf94 (s : State) : Host.Outcome State Fault Refusal := .next (emit 0x94 s)
def execLitHuf95 (s : State) : Host.Outcome State Fault Refusal := .next (emit 0x95 s)
def execLitHuf96 (s : State) : Host.Outcome State Fault Refusal := .next (emit 0x96 s)
def execLitHuf97 (s : State) : Host.Outcome State Fault Refusal := .next (emit 0x97 s)
def execLitHuf98 (s : State) : Host.Outcome State Fault Refusal := .next (emit 0x98 s)
def execLitHuf99 (s : State) : Host.Outcome State Fault Refusal := .next (emit 0x99 s)
def execLitHuf9A (s : State) : Host.Outcome State Fault Refusal := .next (emit 0x9A s)
def execLitHuf9B (s : State) : Host.Outcome State Fault Refusal := .next (emit 0x9B s)
def execLitHuf9C (s : State) : Host.Outcome State Fault Refusal := .next (emit 0x9C s)
def execLitHuf9D (s : State) : Host.Outcome State Fault Refusal := .next (emit 0x9D s)
def execLitHuf9E (s : State) : Host.Outcome State Fault Refusal := .next (emit 0x9E s)
def execLitHuf9F (s : State) : Host.Outcome State Fault Refusal := .next (emit 0x9F s)
def execLitHufA0 (s : State) : Host.Outcome State Fault Refusal := .next (emit 0xA0 s)
def execLitHufA1 (s : State) : Host.Outcome State Fault Refusal := .next (emit 0xA1 s)
def execLitHufA2 (s : State) : Host.Outcome State Fault Refusal := .next (emit 0xA2 s)
def execLitHufA3 (s : State) : Host.Outcome State Fault Refusal := .next (emit 0xA3 s)
def execLitHufA4 (s : State) : Host.Outcome State Fault Refusal := .next (emit 0xA4 s)
def execLitHufA5 (s : State) : Host.Outcome State Fault Refusal := .next (emit 0xA5 s)
def execLitHufA6 (s : State) : Host.Outcome State Fault Refusal := .next (emit 0xA6 s)
def execLitHufA7 (s : State) : Host.Outcome State Fault Refusal := .next (emit 0xA7 s)
def execLitHufA8 (s : State) : Host.Outcome State Fault Refusal := .next (emit 0xA8 s)
def execLitHufA9 (s : State) : Host.Outcome State Fault Refusal := .next (emit 0xA9 s)
def execLitHufAA (s : State) : Host.Outcome State Fault Refusal := .next (emit 0xAA s)
def execLitHufAB (s : State) : Host.Outcome State Fault Refusal := .next (emit 0xAB s)
def execLitHufAC (s : State) : Host.Outcome State Fault Refusal := .next (emit 0xAC s)
def execLitHufAD (s : State) : Host.Outcome State Fault Refusal := .next (emit 0xAD s)
def execLitHufAE (s : State) : Host.Outcome State Fault Refusal := .next (emit 0xAE s)
def execLitHufAF (s : State) : Host.Outcome State Fault Refusal := .next (emit 0xAF s)
def execLitHufB0 (s : State) : Host.Outcome State Fault Refusal := .next (emit 0xB0 s)
def execLitHufB1 (s : State) : Host.Outcome State Fault Refusal := .next (emit 0xB1 s)
def execLitHufB2 (s : State) : Host.Outcome State Fault Refusal := .next (emit 0xB2 s)
def execLitHufB3 (s : State) : Host.Outcome State Fault Refusal := .next (emit 0xB3 s)
def execLitHufB4 (s : State) : Host.Outcome State Fault Refusal := .next (emit 0xB4 s)
def execLitHufB5 (s : State) : Host.Outcome State Fault Refusal := .next (emit 0xB5 s)
def execLitHufB6 (s : State) : Host.Outcome State Fault Refusal := .next (emit 0xB6 s)
def execLitHufB7 (s : State) : Host.Outcome State Fault Refusal := .next (emit 0xB7 s)
def execLitHufB8 (s : State) : Host.Outcome State Fault Refusal := .next (emit 0xB8 s)
def execLitHufB9 (s : State) : Host.Outcome State Fault Refusal := .next (emit 0xB9 s)
def execLitHufBA (s : State) : Host.Outcome State Fault Refusal := .next (emit 0xBA s)
def execLitHufBB (s : State) : Host.Outcome State Fault Refusal := .next (emit 0xBB s)
def execLitHufBC (s : State) : Host.Outcome State Fault Refusal := .next (emit 0xBC s)
def execLitHufBD (s : State) : Host.Outcome State Fault Refusal := .next (emit 0xBD s)
def execLitHufBE (s : State) : Host.Outcome State Fault Refusal := .next (emit 0xBE s)
def execLitHufBF (s : State) : Host.Outcome State Fault Refusal := .next (emit 0xBF s)
def execLitHufC0 (s : State) : Host.Outcome State Fault Refusal := .next (emit 0xC0 s)
def execLitHufC1 (s : State) : Host.Outcome State Fault Refusal := .next (emit 0xC1 s)
def execLitHufC2 (s : State) : Host.Outcome State Fault Refusal := .next (emit 0xC2 s)
def execLitHufC3 (s : State) : Host.Outcome State Fault Refusal := .next (emit 0xC3 s)
def execLitHufC4 (s : State) : Host.Outcome State Fault Refusal := .next (emit 0xC4 s)
def execLitHufC5 (s : State) : Host.Outcome State Fault Refusal := .next (emit 0xC5 s)
def execLitHufC6 (s : State) : Host.Outcome State Fault Refusal := .next (emit 0xC6 s)
def execLitHufC7 (s : State) : Host.Outcome State Fault Refusal := .next (emit 0xC7 s)
def execLitHufC8 (s : State) : Host.Outcome State Fault Refusal := .next (emit 0xC8 s)
def execLitHufC9 (s : State) : Host.Outcome State Fault Refusal := .next (emit 0xC9 s)
def execLitHufCA (s : State) : Host.Outcome State Fault Refusal := .next (emit 0xCA s)
def execLitHufCB (s : State) : Host.Outcome State Fault Refusal := .next (emit 0xCB s)
def execLitHufCC (s : State) : Host.Outcome State Fault Refusal := .next (emit 0xCC s)
def execLitHufCD (s : State) : Host.Outcome State Fault Refusal := .next (emit 0xCD s)
def execLitHufCE (s : State) : Host.Outcome State Fault Refusal := .next (emit 0xCE s)
def execLitHufCF (s : State) : Host.Outcome State Fault Refusal := .next (emit 0xCF s)
def execLitHufD0 (s : State) : Host.Outcome State Fault Refusal := .next (emit 0xD0 s)
def execLitHufD1 (s : State) : Host.Outcome State Fault Refusal := .next (emit 0xD1 s)
def execLitHufD2 (s : State) : Host.Outcome State Fault Refusal := .next (emit 0xD2 s)
def execLitHufD3 (s : State) : Host.Outcome State Fault Refusal := .next (emit 0xD3 s)
def execLitHufD4 (s : State) : Host.Outcome State Fault Refusal := .next (emit 0xD4 s)
def execLitHufD5 (s : State) : Host.Outcome State Fault Refusal := .next (emit 0xD5 s)
def execLitHufD6 (s : State) : Host.Outcome State Fault Refusal := .next (emit 0xD6 s)
def execLitHufD7 (s : State) : Host.Outcome State Fault Refusal := .next (emit 0xD7 s)
def execLitHufD8 (s : State) : Host.Outcome State Fault Refusal := .next (emit 0xD8 s)
def execLitHufD9 (s : State) : Host.Outcome State Fault Refusal := .next (emit 0xD9 s)
def execLitHufDA (s : State) : Host.Outcome State Fault Refusal := .next (emit 0xDA s)
def execLitHufDB (s : State) : Host.Outcome State Fault Refusal := .next (emit 0xDB s)
def execLitHufDC (s : State) : Host.Outcome State Fault Refusal := .next (emit 0xDC s)
def execLitHufDD (s : State) : Host.Outcome State Fault Refusal := .next (emit 0xDD s)
def execLitHufDE (s : State) : Host.Outcome State Fault Refusal := .next (emit 0xDE s)
def execLitHufDF (s : State) : Host.Outcome State Fault Refusal := .next (emit 0xDF s)
def execLitHufE0 (s : State) : Host.Outcome State Fault Refusal := .next (emit 0xE0 s)
def execLitHufE1 (s : State) : Host.Outcome State Fault Refusal := .next (emit 0xE1 s)
def execLitHufE2 (s : State) : Host.Outcome State Fault Refusal := .next (emit 0xE2 s)
def execLitHufE3 (s : State) : Host.Outcome State Fault Refusal := .next (emit 0xE3 s)
def execLitHufE4 (s : State) : Host.Outcome State Fault Refusal := .next (emit 0xE4 s)
def execLitHufE5 (s : State) : Host.Outcome State Fault Refusal := .next (emit 0xE5 s)
def execLitHufE6 (s : State) : Host.Outcome State Fault Refusal := .next (emit 0xE6 s)
def execLitHufE7 (s : State) : Host.Outcome State Fault Refusal := .next (emit 0xE7 s)
def execLitHufE8 (s : State) : Host.Outcome State Fault Refusal := .next (emit 0xE8 s)
def execLitHufE9 (s : State) : Host.Outcome State Fault Refusal := .next (emit 0xE9 s)
def execLitHufEA (s : State) : Host.Outcome State Fault Refusal := .next (emit 0xEA s)
def execLitHufEB (s : State) : Host.Outcome State Fault Refusal := .next (emit 0xEB s)
def execLitHufEC (s : State) : Host.Outcome State Fault Refusal := .next (emit 0xEC s)
def execLitHufED (s : State) : Host.Outcome State Fault Refusal := .next (emit 0xED s)
def execLitHufEE (s : State) : Host.Outcome State Fault Refusal := .next (emit 0xEE s)
def execLitHufEF (s : State) : Host.Outcome State Fault Refusal := .next (emit 0xEF s)
def execLitHufF0 (s : State) : Host.Outcome State Fault Refusal := .next (emit 0xF0 s)
def execLitHufF1 (s : State) : Host.Outcome State Fault Refusal := .next (emit 0xF1 s)
def execLitHufF2 (s : State) : Host.Outcome State Fault Refusal := .next (emit 0xF2 s)
def execLitHufF3 (s : State) : Host.Outcome State Fault Refusal := .next (emit 0xF3 s)
def execLitHufF4 (s : State) : Host.Outcome State Fault Refusal := .next (emit 0xF4 s)
def execLitHufF5 (s : State) : Host.Outcome State Fault Refusal := .next (emit 0xF5 s)
def execLitHufF6 (s : State) : Host.Outcome State Fault Refusal := .next (emit 0xF6 s)
def execLitHufF7 (s : State) : Host.Outcome State Fault Refusal := .next (emit 0xF7 s)
def execLitHufF8 (s : State) : Host.Outcome State Fault Refusal := .next (emit 0xF8 s)
def execLitHufF9 (s : State) : Host.Outcome State Fault Refusal := .next (emit 0xF9 s)
def execLitHufFA (s : State) : Host.Outcome State Fault Refusal := .next (emit 0xFA s)
def execLitHufFB (s : State) : Host.Outcome State Fault Refusal := .next (emit 0xFB s)
def execLitHufFC (s : State) : Host.Outcome State Fault Refusal := .next (emit 0xFC s)
def execLitHufFD (s : State) : Host.Outcome State Fault Refusal := .next (emit 0xFD s)
def execLitHufFE (s : State) : Host.Outcome State Fault Refusal := .next (emit 0xFE s)
def execLitHufFF (s : State) : Host.Outcome State Fault Refusal := .next (emit 0xFF s)

end Sys2Proof.Machine
end

