-- ==== Sys2Proof/Machine/Match.lean ====
section
/-!
DEFINITION. The length part of a match, MATCH.L0 to MATCH.L15 (43_decoder.md R166, 30_encoding.md R77), and END (R167).
-/
namespace Sys2Proof.Machine

/-! MATCH.L<sym> (R166): the length is BASE[sym] + xlen; 519 is END, any other length waits for the distance part. -/

def execMatchL0 (s : State) : Host.Outcome State Fault Refusal := .next (takeLength (lengthOf 0 0) s)
def execMatchL1 (s : State) : Host.Outcome State Fault Refusal := .next (takeLength (lengthOf 1 0) s)
def execMatchL2 (s : State) : Host.Outcome State Fault Refusal := .next (takeLength (lengthOf 2 0) s)
def execMatchL3 (s : State) : Host.Outcome State Fault Refusal := .next (takeLength (lengthOf 3 0) s)
def execMatchL4 (s : State) : Host.Outcome State Fault Refusal := .next (takeLength (lengthOf 4 0) s)
def execMatchL5 (s : State) : Host.Outcome State Fault Refusal := .next (takeLength (lengthOf 5 0) s)
def execMatchL6 (s : State) : Host.Outcome State Fault Refusal := .next (takeLength (lengthOf 6 0) s)
def execMatchL7 (s : State) : Host.Outcome State Fault Refusal := .next (takeLength (lengthOf 7 0) s)
def execMatchL8 (xlen : BitVec 1) (s : State) : Host.Outcome State Fault Refusal :=
  .next (takeLength (lengthOf 8 xlen.toNat) s)
def execMatchL9 (xlen : BitVec 2) (s : State) : Host.Outcome State Fault Refusal :=
  .next (takeLength (lengthOf 9 xlen.toNat) s)
def execMatchL10 (xlen : BitVec 3) (s : State) : Host.Outcome State Fault Refusal :=
  .next (takeLength (lengthOf 10 xlen.toNat) s)
def execMatchL11 (xlen : BitVec 4) (s : State) : Host.Outcome State Fault Refusal :=
  .next (takeLength (lengthOf 11 xlen.toNat) s)
def execMatchL12 (xlen : BitVec 5) (s : State) : Host.Outcome State Fault Refusal :=
  .next (takeLength (lengthOf 12 xlen.toNat) s)
def execMatchL13 (xlen : BitVec 6) (s : State) : Host.Outcome State Fault Refusal :=
  .next (takeLength (lengthOf 13 xlen.toNat) s)
def execMatchL14 (xlen : BitVec 7) (s : State) : Host.Outcome State Fault Refusal :=
  .next (takeLength (lengthOf 14 xlen.toNat) s)
def execMatchL15 (xlen : BitVec 8) (s : State) : Host.Outcome State Fault Refusal :=
  .next (takeLength (lengthOf 15 xlen.toNat) s)

/-- END (R167): the decode is done; no distance follows. -/
def execEndStream (s : State) : Host.Outcome State Fault Refusal := .next (finish s)

end Sys2Proof.Machine
end

