-- ==== Sys2Proof/Syntax.lean ====
section
/-!
DEFINITION. The instructions: one constructor for each row of spec/opcode_table.json (30_encoding.md R80). A MATCH unit
is two rows, its length part `matchL<sym>` and its distance part `distD<dsym>`; END is a row of its own.
-/
namespace Sys2Proof

/-- The rows of the opcode table. Operands are the raw fields of the row's encoding; the symbol that a Huffman code
stands for is the constructor itself. -/
inductive Instr where
  /-- HDR: the two header bytes (R71, R161) -/
  | hdr (lit dictBits : BitVec 8)
  /-- LIT.RAW: the literal byte (R73, R164) -/
  | litRaw (b : BitVec 8)
  -- MATCH.L0 to MATCH.L15: the length symbol with its EXTRA[sym] raw bits (R75, R77, R166)
  | matchL0 | matchL1 | matchL2 | matchL3 | matchL4 | matchL5 | matchL6 | matchL7
  | matchL8 (xlen : BitVec 1)
  | matchL9 (xlen : BitVec 2)
  | matchL10 (xlen : BitVec 3)
  | matchL11 (xlen : BitVec 4)
  | matchL12 (xlen : BitVec 5)
  | matchL13 (xlen : BitVec 6)
  | matchL14 (xlen : BitVec 7)
  | matchL15 (xlen : BitVec 8)
  /-- END: length 519 (R76, R167) -/
  | endStream
  -- DIST.D0 to DIST.D63: the distance symbol with its k raw bits, k known from the match in progress (R78, R168)
  | distD0 (xdist : Nat) | distD1 (xdist : Nat) | distD2 (xdist : Nat) | distD3 (xdist : Nat)
  | distD4 (xdist : Nat) | distD5 (xdist : Nat) | distD6 (xdist : Nat) | distD7 (xdist : Nat)
  | distD8 (xdist : Nat) | distD9 (xdist : Nat) | distD10 (xdist : Nat) | distD11 (xdist : Nat)
  | distD12 (xdist : Nat) | distD13 (xdist : Nat) | distD14 (xdist : Nat) | distD15 (xdist : Nat)
  | distD16 (xdist : Nat) | distD17 (xdist : Nat) | distD18 (xdist : Nat) | distD19 (xdist : Nat)
  | distD20 (xdist : Nat) | distD21 (xdist : Nat) | distD22 (xdist : Nat) | distD23 (xdist : Nat)
  | distD24 (xdist : Nat) | distD25 (xdist : Nat) | distD26 (xdist : Nat) | distD27 (xdist : Nat)
  | distD28 (xdist : Nat) | distD29 (xdist : Nat) | distD30 (xdist : Nat) | distD31 (xdist : Nat)
  | distD32 (xdist : Nat) | distD33 (xdist : Nat) | distD34 (xdist : Nat) | distD35 (xdist : Nat)
  | distD36 (xdist : Nat) | distD37 (xdist : Nat) | distD38 (xdist : Nat) | distD39 (xdist : Nat)
  | distD40 (xdist : Nat) | distD41 (xdist : Nat) | distD42 (xdist : Nat) | distD43 (xdist : Nat)
  | distD44 (xdist : Nat) | distD45 (xdist : Nat) | distD46 (xdist : Nat) | distD47 (xdist : Nat)
  | distD48 (xdist : Nat) | distD49 (xdist : Nat) | distD50 (xdist : Nat) | distD51 (xdist : Nat)
  | distD52 (xdist : Nat) | distD53 (xdist : Nat) | distD54 (xdist : Nat) | distD55 (xdist : Nat)
  | distD56 (xdist : Nat) | distD57 (xdist : Nat) | distD58 (xdist : Nat) | distD59 (xdist : Nat)
  | distD60 (xdist : Nat) | distD61 (xdist : Nat) | distD62 (xdist : Nat) | distD63 (xdist : Nat)
  -- LIT.HUF_0x00 to LIT.HUF_0xFF: the literal symbol, which is the byte emitted (R74, R165)
  | litHuf00 | litHuf01 | litHuf02 | litHuf03 | litHuf04 | litHuf05 | litHuf06 | litHuf07
  | litHuf08 | litHuf09 | litHuf0A | litHuf0B | litHuf0C | litHuf0D | litHuf0E | litHuf0F
  | litHuf10 | litHuf11 | litHuf12 | litHuf13 | litHuf14 | litHuf15 | litHuf16 | litHuf17
  | litHuf18 | litHuf19 | litHuf1A | litHuf1B | litHuf1C | litHuf1D | litHuf1E | litHuf1F
  | litHuf20 | litHuf21 | litHuf22 | litHuf23 | litHuf24 | litHuf25 | litHuf26 | litHuf27
  | litHuf28 | litHuf29 | litHuf2A | litHuf2B | litHuf2C | litHuf2D | litHuf2E | litHuf2F
  | litHuf30 | litHuf31 | litHuf32 | litHuf33 | litHuf34 | litHuf35 | litHuf36 | litHuf37
  | litHuf38 | litHuf39 | litHuf3A | litHuf3B | litHuf3C | litHuf3D | litHuf3E | litHuf3F
  | litHuf40 | litHuf41 | litHuf42 | litHuf43 | litHuf44 | litHuf45 | litHuf46 | litHuf47
  | litHuf48 | litHuf49 | litHuf4A | litHuf4B | litHuf4C | litHuf4D | litHuf4E | litHuf4F
  | litHuf50 | litHuf51 | litHuf52 | litHuf53 | litHuf54 | litHuf55 | litHuf56 | litHuf57
  | litHuf58 | litHuf59 | litHuf5A | litHuf5B | litHuf5C | litHuf5D | litHuf5E | litHuf5F
  | litHuf60 | litHuf61 | litHuf62 | litHuf63 | litHuf64 | litHuf65 | litHuf66 | litHuf67
  | litHuf68 | litHuf69 | litHuf6A | litHuf6B | litHuf6C | litHuf6D | litHuf6E | litHuf6F
  | litHuf70 | litHuf71 | litHuf72 | litHuf73 | litHuf74 | litHuf75 | litHuf76 | litHuf77
  | litHuf78 | litHuf79 | litHuf7A | litHuf7B | litHuf7C | litHuf7D | litHuf7E | litHuf7F
  | litHuf80 | litHuf81 | litHuf82 | litHuf83 | litHuf84 | litHuf85 | litHuf86 | litHuf87
  | litHuf88 | litHuf89 | litHuf8A | litHuf8B | litHuf8C | litHuf8D | litHuf8E | litHuf8F
  | litHuf90 | litHuf91 | litHuf92 | litHuf93 | litHuf94 | litHuf95 | litHuf96 | litHuf97
  | litHuf98 | litHuf99 | litHuf9A | litHuf9B | litHuf9C | litHuf9D | litHuf9E | litHuf9F
  | litHufA0 | litHufA1 | litHufA2 | litHufA3 | litHufA4 | litHufA5 | litHufA6 | litHufA7
  | litHufA8 | litHufA9 | litHufAA | litHufAB | litHufAC | litHufAD | litHufAE | litHufAF
  | litHufB0 | litHufB1 | litHufB2 | litHufB3 | litHufB4 | litHufB5 | litHufB6 | litHufB7
  | litHufB8 | litHufB9 | litHufBA | litHufBB | litHufBC | litHufBD | litHufBE | litHufBF
  | litHufC0 | litHufC1 | litHufC2 | litHufC3 | litHufC4 | litHufC5 | litHufC6 | litHufC7
  | litHufC8 | litHufC9 | litHufCA | litHufCB | litHufCC | litHufCD | litHufCE | litHufCF
  | litHufD0 | litHufD1 | litHufD2 | litHufD3 | litHufD4 | litHufD5 | litHufD6 | litHufD7
  | litHufD8 | litHufD9 | litHufDA | litHufDB | litHufDC | litHufDD | litHufDE | litHufDF
  | litHufE0 | litHufE1 | litHufE2 | litHufE3 | litHufE4 | litHufE5 | litHufE6 | litHufE7
  | litHufE8 | litHufE9 | litHufEA | litHufEB | litHufEC | litHufED | litHufEE | litHufEF
  | litHufF0 | litHufF1 | litHufF2 | litHufF3 | litHufF4 | litHufF5 | litHufF6 | litHufF7
  | litHufF8 | litHufF9 | litHufFA | litHufFB | litHufFC | litHufFD | litHufFE | litHufFF
  deriving DecidableEq, Repr

end Sys2Proof
end

