-- ==== Sys2Proof/Machine/Dispatch.lean ====
section
/-!
DEFINITION. The one dispatch: one arm for each instruction, each a single call of its meaning.
-/
namespace Sys2Proof.Machine

def exec (i : Instr) (s : State) : Host.Outcome State Fault Refusal :=
  match i with
  | .hdr lit dictBits => Sys2Proof.Machine.execHdr lit dictBits s
  | .litRaw b => Sys2Proof.Machine.execLitRaw b s
  | .litHuf00 => Sys2Proof.Machine.execLitHuf00 s
  | .litHuf01 => Sys2Proof.Machine.execLitHuf01 s
  | .litHuf02 => Sys2Proof.Machine.execLitHuf02 s
  | .litHuf03 => Sys2Proof.Machine.execLitHuf03 s
  | .litHuf04 => Sys2Proof.Machine.execLitHuf04 s
  | .litHuf05 => Sys2Proof.Machine.execLitHuf05 s
  | .litHuf06 => Sys2Proof.Machine.execLitHuf06 s
  | .litHuf07 => Sys2Proof.Machine.execLitHuf07 s
  | .litHuf08 => Sys2Proof.Machine.execLitHuf08 s
  | .litHuf09 => Sys2Proof.Machine.execLitHuf09 s
  | .litHuf0A => Sys2Proof.Machine.execLitHuf0A s
  | .litHuf0B => Sys2Proof.Machine.execLitHuf0B s
  | .litHuf0C => Sys2Proof.Machine.execLitHuf0C s
  | .litHuf0D => Sys2Proof.Machine.execLitHuf0D s
  | .litHuf0E => Sys2Proof.Machine.execLitHuf0E s
  | .litHuf0F => Sys2Proof.Machine.execLitHuf0F s
  | .litHuf10 => Sys2Proof.Machine.execLitHuf10 s
  | .litHuf11 => Sys2Proof.Machine.execLitHuf11 s
  | .litHuf12 => Sys2Proof.Machine.execLitHuf12 s
  | .litHuf13 => Sys2Proof.Machine.execLitHuf13 s
  | .litHuf14 => Sys2Proof.Machine.execLitHuf14 s
  | .litHuf15 => Sys2Proof.Machine.execLitHuf15 s
  | .litHuf16 => Sys2Proof.Machine.execLitHuf16 s
  | .litHuf17 => Sys2Proof.Machine.execLitHuf17 s
  | .litHuf18 => Sys2Proof.Machine.execLitHuf18 s
  | .litHuf19 => Sys2Proof.Machine.execLitHuf19 s
  | .litHuf1A => Sys2Proof.Machine.execLitHuf1A s
  | .litHuf1B => Sys2Proof.Machine.execLitHuf1B s
  | .litHuf1C => Sys2Proof.Machine.execLitHuf1C s
  | .litHuf1D => Sys2Proof.Machine.execLitHuf1D s
  | .litHuf1E => Sys2Proof.Machine.execLitHuf1E s
  | .litHuf1F => Sys2Proof.Machine.execLitHuf1F s
  | .litHuf20 => Sys2Proof.Machine.execLitHuf20 s
  | .litHuf21 => Sys2Proof.Machine.execLitHuf21 s
  | .litHuf22 => Sys2Proof.Machine.execLitHuf22 s
  | .litHuf23 => Sys2Proof.Machine.execLitHuf23 s
  | .litHuf24 => Sys2Proof.Machine.execLitHuf24 s
  | .litHuf25 => Sys2Proof.Machine.execLitHuf25 s
  | .litHuf26 => Sys2Proof.Machine.execLitHuf26 s
  | .litHuf27 => Sys2Proof.Machine.execLitHuf27 s
  | .litHuf28 => Sys2Proof.Machine.execLitHuf28 s
  | .litHuf29 => Sys2Proof.Machine.execLitHuf29 s
  | .litHuf2A => Sys2Proof.Machine.execLitHuf2A s
  | .litHuf2B => Sys2Proof.Machine.execLitHuf2B s
  | .litHuf2C => Sys2Proof.Machine.execLitHuf2C s
  | .litHuf2D => Sys2Proof.Machine.execLitHuf2D s
  | .litHuf2E => Sys2Proof.Machine.execLitHuf2E s
  | .litHuf2F => Sys2Proof.Machine.execLitHuf2F s
  | .litHuf30 => Sys2Proof.Machine.execLitHuf30 s
  | .litHuf31 => Sys2Proof.Machine.execLitHuf31 s
  | .litHuf32 => Sys2Proof.Machine.execLitHuf32 s
  | .litHuf33 => Sys2Proof.Machine.execLitHuf33 s
  | .litHuf34 => Sys2Proof.Machine.execLitHuf34 s
  | .litHuf35 => Sys2Proof.Machine.execLitHuf35 s
  | .litHuf36 => Sys2Proof.Machine.execLitHuf36 s
  | .litHuf37 => Sys2Proof.Machine.execLitHuf37 s
  | .litHuf38 => Sys2Proof.Machine.execLitHuf38 s
  | .litHuf39 => Sys2Proof.Machine.execLitHuf39 s
  | .litHuf3A => Sys2Proof.Machine.execLitHuf3A s
  | .litHuf3B => Sys2Proof.Machine.execLitHuf3B s
  | .litHuf3C => Sys2Proof.Machine.execLitHuf3C s
  | .litHuf3D => Sys2Proof.Machine.execLitHuf3D s
  | .litHuf3E => Sys2Proof.Machine.execLitHuf3E s
  | .litHuf3F => Sys2Proof.Machine.execLitHuf3F s
  | .litHuf40 => Sys2Proof.Machine.execLitHuf40 s
  | .litHuf41 => Sys2Proof.Machine.execLitHuf41 s
  | .litHuf42 => Sys2Proof.Machine.execLitHuf42 s
  | .litHuf43 => Sys2Proof.Machine.execLitHuf43 s
  | .litHuf44 => Sys2Proof.Machine.execLitHuf44 s
  | .litHuf45 => Sys2Proof.Machine.execLitHuf45 s
  | .litHuf46 => Sys2Proof.Machine.execLitHuf46 s
  | .litHuf47 => Sys2Proof.Machine.execLitHuf47 s
  | .litHuf48 => Sys2Proof.Machine.execLitHuf48 s
  | .litHuf49 => Sys2Proof.Machine.execLitHuf49 s
  | .litHuf4A => Sys2Proof.Machine.execLitHuf4A s
  | .litHuf4B => Sys2Proof.Machine.execLitHuf4B s
  | .litHuf4C => Sys2Proof.Machine.execLitHuf4C s
  | .litHuf4D => Sys2Proof.Machine.execLitHuf4D s
  | .litHuf4E => Sys2Proof.Machine.execLitHuf4E s
  | .litHuf4F => Sys2Proof.Machine.execLitHuf4F s
  | .litHuf50 => Sys2Proof.Machine.execLitHuf50 s
  | .litHuf51 => Sys2Proof.Machine.execLitHuf51 s
  | .litHuf52 => Sys2Proof.Machine.execLitHuf52 s
  | .litHuf53 => Sys2Proof.Machine.execLitHuf53 s
  | .litHuf54 => Sys2Proof.Machine.execLitHuf54 s
  | .litHuf55 => Sys2Proof.Machine.execLitHuf55 s
  | .litHuf56 => Sys2Proof.Machine.execLitHuf56 s
  | .litHuf57 => Sys2Proof.Machine.execLitHuf57 s
  | .litHuf58 => Sys2Proof.Machine.execLitHuf58 s
  | .litHuf59 => Sys2Proof.Machine.execLitHuf59 s
  | .litHuf5A => Sys2Proof.Machine.execLitHuf5A s
  | .litHuf5B => Sys2Proof.Machine.execLitHuf5B s
  | .litHuf5C => Sys2Proof.Machine.execLitHuf5C s
  | .litHuf5D => Sys2Proof.Machine.execLitHuf5D s
  | .litHuf5E => Sys2Proof.Machine.execLitHuf5E s
  | .litHuf5F => Sys2Proof.Machine.execLitHuf5F s
  | .litHuf60 => Sys2Proof.Machine.execLitHuf60 s
  | .litHuf61 => Sys2Proof.Machine.execLitHuf61 s
  | .litHuf62 => Sys2Proof.Machine.execLitHuf62 s
  | .litHuf63 => Sys2Proof.Machine.execLitHuf63 s
  | .litHuf64 => Sys2Proof.Machine.execLitHuf64 s
  | .litHuf65 => Sys2Proof.Machine.execLitHuf65 s
  | .litHuf66 => Sys2Proof.Machine.execLitHuf66 s
  | .litHuf67 => Sys2Proof.Machine.execLitHuf67 s
  | .litHuf68 => Sys2Proof.Machine.execLitHuf68 s
  | .litHuf69 => Sys2Proof.Machine.execLitHuf69 s
  | .litHuf6A => Sys2Proof.Machine.execLitHuf6A s
  | .litHuf6B => Sys2Proof.Machine.execLitHuf6B s
  | .litHuf6C => Sys2Proof.Machine.execLitHuf6C s
  | .litHuf6D => Sys2Proof.Machine.execLitHuf6D s
  | .litHuf6E => Sys2Proof.Machine.execLitHuf6E s
  | .litHuf6F => Sys2Proof.Machine.execLitHuf6F s
  | .litHuf70 => Sys2Proof.Machine.execLitHuf70 s
  | .litHuf71 => Sys2Proof.Machine.execLitHuf71 s
  | .litHuf72 => Sys2Proof.Machine.execLitHuf72 s
  | .litHuf73 => Sys2Proof.Machine.execLitHuf73 s
  | .litHuf74 => Sys2Proof.Machine.execLitHuf74 s
  | .litHuf75 => Sys2Proof.Machine.execLitHuf75 s
  | .litHuf76 => Sys2Proof.Machine.execLitHuf76 s
  | .litHuf77 => Sys2Proof.Machine.execLitHuf77 s
  | .litHuf78 => Sys2Proof.Machine.execLitHuf78 s
  | .litHuf79 => Sys2Proof.Machine.execLitHuf79 s
  | .litHuf7A => Sys2Proof.Machine.execLitHuf7A s
  | .litHuf7B => Sys2Proof.Machine.execLitHuf7B s
  | .litHuf7C => Sys2Proof.Machine.execLitHuf7C s
  | .litHuf7D => Sys2Proof.Machine.execLitHuf7D s
  | .litHuf7E => Sys2Proof.Machine.execLitHuf7E s
  | .litHuf7F => Sys2Proof.Machine.execLitHuf7F s
  | .litHuf80 => Sys2Proof.Machine.execLitHuf80 s
  | .litHuf81 => Sys2Proof.Machine.execLitHuf81 s
  | .litHuf82 => Sys2Proof.Machine.execLitHuf82 s
  | .litHuf83 => Sys2Proof.Machine.execLitHuf83 s
  | .litHuf84 => Sys2Proof.Machine.execLitHuf84 s
  | .litHuf85 => Sys2Proof.Machine.execLitHuf85 s
  | .litHuf86 => Sys2Proof.Machine.execLitHuf86 s
  | .litHuf87 => Sys2Proof.Machine.execLitHuf87 s
  | .litHuf88 => Sys2Proof.Machine.execLitHuf88 s
  | .litHuf89 => Sys2Proof.Machine.execLitHuf89 s
  | .litHuf8A => Sys2Proof.Machine.execLitHuf8A s
  | .litHuf8B => Sys2Proof.Machine.execLitHuf8B s
  | .litHuf8C => Sys2Proof.Machine.execLitHuf8C s
  | .litHuf8D => Sys2Proof.Machine.execLitHuf8D s
  | .litHuf8E => Sys2Proof.Machine.execLitHuf8E s
  | .litHuf8F => Sys2Proof.Machine.execLitHuf8F s
  | .litHuf90 => Sys2Proof.Machine.execLitHuf90 s
  | .litHuf91 => Sys2Proof.Machine.execLitHuf91 s
  | .litHuf92 => Sys2Proof.Machine.execLitHuf92 s
  | .litHuf93 => Sys2Proof.Machine.execLitHuf93 s
  | .litHuf94 => Sys2Proof.Machine.execLitHuf94 s
  | .litHuf95 => Sys2Proof.Machine.execLitHuf95 s
  | .litHuf96 => Sys2Proof.Machine.execLitHuf96 s
  | .litHuf97 => Sys2Proof.Machine.execLitHuf97 s
  | .litHuf98 => Sys2Proof.Machine.execLitHuf98 s
  | .litHuf99 => Sys2Proof.Machine.execLitHuf99 s
  | .litHuf9A => Sys2Proof.Machine.execLitHuf9A s
  | .litHuf9B => Sys2Proof.Machine.execLitHuf9B s
  | .litHuf9C => Sys2Proof.Machine.execLitHuf9C s
  | .litHuf9D => Sys2Proof.Machine.execLitHuf9D s
  | .litHuf9E => Sys2Proof.Machine.execLitHuf9E s
  | .litHuf9F => Sys2Proof.Machine.execLitHuf9F s
  | .litHufA0 => Sys2Proof.Machine.execLitHufA0 s
  | .litHufA1 => Sys2Proof.Machine.execLitHufA1 s
  | .litHufA2 => Sys2Proof.Machine.execLitHufA2 s
  | .litHufA3 => Sys2Proof.Machine.execLitHufA3 s
  | .litHufA4 => Sys2Proof.Machine.execLitHufA4 s
  | .litHufA5 => Sys2Proof.Machine.execLitHufA5 s
  | .litHufA6 => Sys2Proof.Machine.execLitHufA6 s
  | .litHufA7 => Sys2Proof.Machine.execLitHufA7 s
  | .litHufA8 => Sys2Proof.Machine.execLitHufA8 s
  | .litHufA9 => Sys2Proof.Machine.execLitHufA9 s
  | .litHufAA => Sys2Proof.Machine.execLitHufAA s
  | .litHufAB => Sys2Proof.Machine.execLitHufAB s
  | .litHufAC => Sys2Proof.Machine.execLitHufAC s
  | .litHufAD => Sys2Proof.Machine.execLitHufAD s
  | .litHufAE => Sys2Proof.Machine.execLitHufAE s
  | .litHufAF => Sys2Proof.Machine.execLitHufAF s
  | .litHufB0 => Sys2Proof.Machine.execLitHufB0 s
  | .litHufB1 => Sys2Proof.Machine.execLitHufB1 s
  | .litHufB2 => Sys2Proof.Machine.execLitHufB2 s
  | .litHufB3 => Sys2Proof.Machine.execLitHufB3 s
  | .litHufB4 => Sys2Proof.Machine.execLitHufB4 s
  | .litHufB5 => Sys2Proof.Machine.execLitHufB5 s
  | .litHufB6 => Sys2Proof.Machine.execLitHufB6 s
  | .litHufB7 => Sys2Proof.Machine.execLitHufB7 s
  | .litHufB8 => Sys2Proof.Machine.execLitHufB8 s
  | .litHufB9 => Sys2Proof.Machine.execLitHufB9 s
  | .litHufBA => Sys2Proof.Machine.execLitHufBA s
  | .litHufBB => Sys2Proof.Machine.execLitHufBB s
  | .litHufBC => Sys2Proof.Machine.execLitHufBC s
  | .litHufBD => Sys2Proof.Machine.execLitHufBD s
  | .litHufBE => Sys2Proof.Machine.execLitHufBE s
  | .litHufBF => Sys2Proof.Machine.execLitHufBF s
  | .litHufC0 => Sys2Proof.Machine.execLitHufC0 s
  | .litHufC1 => Sys2Proof.Machine.execLitHufC1 s
  | .litHufC2 => Sys2Proof.Machine.execLitHufC2 s
  | .litHufC3 => Sys2Proof.Machine.execLitHufC3 s
  | .litHufC4 => Sys2Proof.Machine.execLitHufC4 s
  | .litHufC5 => Sys2Proof.Machine.execLitHufC5 s
  | .litHufC6 => Sys2Proof.Machine.execLitHufC6 s
  | .litHufC7 => Sys2Proof.Machine.execLitHufC7 s
  | .litHufC8 => Sys2Proof.Machine.execLitHufC8 s
  | .litHufC9 => Sys2Proof.Machine.execLitHufC9 s
  | .litHufCA => Sys2Proof.Machine.execLitHufCA s
  | .litHufCB => Sys2Proof.Machine.execLitHufCB s
  | .litHufCC => Sys2Proof.Machine.execLitHufCC s
  | .litHufCD => Sys2Proof.Machine.execLitHufCD s
  | .litHufCE => Sys2Proof.Machine.execLitHufCE s
  | .litHufCF => Sys2Proof.Machine.execLitHufCF s
  | .litHufD0 => Sys2Proof.Machine.execLitHufD0 s
  | .litHufD1 => Sys2Proof.Machine.execLitHufD1 s
  | .litHufD2 => Sys2Proof.Machine.execLitHufD2 s
  | .litHufD3 => Sys2Proof.Machine.execLitHufD3 s
  | .litHufD4 => Sys2Proof.Machine.execLitHufD4 s
  | .litHufD5 => Sys2Proof.Machine.execLitHufD5 s
  | .litHufD6 => Sys2Proof.Machine.execLitHufD6 s
  | .litHufD7 => Sys2Proof.Machine.execLitHufD7 s
  | .litHufD8 => Sys2Proof.Machine.execLitHufD8 s
  | .litHufD9 => Sys2Proof.Machine.execLitHufD9 s
  | .litHufDA => Sys2Proof.Machine.execLitHufDA s
  | .litHufDB => Sys2Proof.Machine.execLitHufDB s
  | .litHufDC => Sys2Proof.Machine.execLitHufDC s
  | .litHufDD => Sys2Proof.Machine.execLitHufDD s
  | .litHufDE => Sys2Proof.Machine.execLitHufDE s
  | .litHufDF => Sys2Proof.Machine.execLitHufDF s
  | .litHufE0 => Sys2Proof.Machine.execLitHufE0 s
  | .litHufE1 => Sys2Proof.Machine.execLitHufE1 s
  | .litHufE2 => Sys2Proof.Machine.execLitHufE2 s
  | .litHufE3 => Sys2Proof.Machine.execLitHufE3 s
  | .litHufE4 => Sys2Proof.Machine.execLitHufE4 s
  | .litHufE5 => Sys2Proof.Machine.execLitHufE5 s
  | .litHufE6 => Sys2Proof.Machine.execLitHufE6 s
  | .litHufE7 => Sys2Proof.Machine.execLitHufE7 s
  | .litHufE8 => Sys2Proof.Machine.execLitHufE8 s
  | .litHufE9 => Sys2Proof.Machine.execLitHufE9 s
  | .litHufEA => Sys2Proof.Machine.execLitHufEA s
  | .litHufEB => Sys2Proof.Machine.execLitHufEB s
  | .litHufEC => Sys2Proof.Machine.execLitHufEC s
  | .litHufED => Sys2Proof.Machine.execLitHufED s
  | .litHufEE => Sys2Proof.Machine.execLitHufEE s
  | .litHufEF => Sys2Proof.Machine.execLitHufEF s
  | .litHufF0 => Sys2Proof.Machine.execLitHufF0 s
  | .litHufF1 => Sys2Proof.Machine.execLitHufF1 s
  | .litHufF2 => Sys2Proof.Machine.execLitHufF2 s
  | .litHufF3 => Sys2Proof.Machine.execLitHufF3 s
  | .litHufF4 => Sys2Proof.Machine.execLitHufF4 s
  | .litHufF5 => Sys2Proof.Machine.execLitHufF5 s
  | .litHufF6 => Sys2Proof.Machine.execLitHufF6 s
  | .litHufF7 => Sys2Proof.Machine.execLitHufF7 s
  | .litHufF8 => Sys2Proof.Machine.execLitHufF8 s
  | .litHufF9 => Sys2Proof.Machine.execLitHufF9 s
  | .litHufFA => Sys2Proof.Machine.execLitHufFA s
  | .litHufFB => Sys2Proof.Machine.execLitHufFB s
  | .litHufFC => Sys2Proof.Machine.execLitHufFC s
  | .litHufFD => Sys2Proof.Machine.execLitHufFD s
  | .litHufFE => Sys2Proof.Machine.execLitHufFE s
  | .litHufFF => Sys2Proof.Machine.execLitHufFF s
  | .matchL0 => Sys2Proof.Machine.execMatchL0 s
  | .matchL1 => Sys2Proof.Machine.execMatchL1 s
  | .matchL2 => Sys2Proof.Machine.execMatchL2 s
  | .matchL3 => Sys2Proof.Machine.execMatchL3 s
  | .matchL4 => Sys2Proof.Machine.execMatchL4 s
  | .matchL5 => Sys2Proof.Machine.execMatchL5 s
  | .matchL6 => Sys2Proof.Machine.execMatchL6 s
  | .matchL7 => Sys2Proof.Machine.execMatchL7 s
  | .matchL8 xlen => Sys2Proof.Machine.execMatchL8 xlen s
  | .matchL9 xlen => Sys2Proof.Machine.execMatchL9 xlen s
  | .matchL10 xlen => Sys2Proof.Machine.execMatchL10 xlen s
  | .matchL11 xlen => Sys2Proof.Machine.execMatchL11 xlen s
  | .matchL12 xlen => Sys2Proof.Machine.execMatchL12 xlen s
  | .matchL13 xlen => Sys2Proof.Machine.execMatchL13 xlen s
  | .matchL14 xlen => Sys2Proof.Machine.execMatchL14 xlen s
  | .matchL15 xlen => Sys2Proof.Machine.execMatchL15 xlen s
  | .endStream => Sys2Proof.Machine.execEndStream s
  | .distD0 xdist => Sys2Proof.Machine.execDistD0 xdist s
  | .distD1 xdist => Sys2Proof.Machine.execDistD1 xdist s
  | .distD2 xdist => Sys2Proof.Machine.execDistD2 xdist s
  | .distD3 xdist => Sys2Proof.Machine.execDistD3 xdist s
  | .distD4 xdist => Sys2Proof.Machine.execDistD4 xdist s
  | .distD5 xdist => Sys2Proof.Machine.execDistD5 xdist s
  | .distD6 xdist => Sys2Proof.Machine.execDistD6 xdist s
  | .distD7 xdist => Sys2Proof.Machine.execDistD7 xdist s
  | .distD8 xdist => Sys2Proof.Machine.execDistD8 xdist s
  | .distD9 xdist => Sys2Proof.Machine.execDistD9 xdist s
  | .distD10 xdist => Sys2Proof.Machine.execDistD10 xdist s
  | .distD11 xdist => Sys2Proof.Machine.execDistD11 xdist s
  | .distD12 xdist => Sys2Proof.Machine.execDistD12 xdist s
  | .distD13 xdist => Sys2Proof.Machine.execDistD13 xdist s
  | .distD14 xdist => Sys2Proof.Machine.execDistD14 xdist s
  | .distD15 xdist => Sys2Proof.Machine.execDistD15 xdist s
  | .distD16 xdist => Sys2Proof.Machine.execDistD16 xdist s
  | .distD17 xdist => Sys2Proof.Machine.execDistD17 xdist s
  | .distD18 xdist => Sys2Proof.Machine.execDistD18 xdist s
  | .distD19 xdist => Sys2Proof.Machine.execDistD19 xdist s
  | .distD20 xdist => Sys2Proof.Machine.execDistD20 xdist s
  | .distD21 xdist => Sys2Proof.Machine.execDistD21 xdist s
  | .distD22 xdist => Sys2Proof.Machine.execDistD22 xdist s
  | .distD23 xdist => Sys2Proof.Machine.execDistD23 xdist s
  | .distD24 xdist => Sys2Proof.Machine.execDistD24 xdist s
  | .distD25 xdist => Sys2Proof.Machine.execDistD25 xdist s
  | .distD26 xdist => Sys2Proof.Machine.execDistD26 xdist s
  | .distD27 xdist => Sys2Proof.Machine.execDistD27 xdist s
  | .distD28 xdist => Sys2Proof.Machine.execDistD28 xdist s
  | .distD29 xdist => Sys2Proof.Machine.execDistD29 xdist s
  | .distD30 xdist => Sys2Proof.Machine.execDistD30 xdist s
  | .distD31 xdist => Sys2Proof.Machine.execDistD31 xdist s
  | .distD32 xdist => Sys2Proof.Machine.execDistD32 xdist s
  | .distD33 xdist => Sys2Proof.Machine.execDistD33 xdist s
  | .distD34 xdist => Sys2Proof.Machine.execDistD34 xdist s
  | .distD35 xdist => Sys2Proof.Machine.execDistD35 xdist s
  | .distD36 xdist => Sys2Proof.Machine.execDistD36 xdist s
  | .distD37 xdist => Sys2Proof.Machine.execDistD37 xdist s
  | .distD38 xdist => Sys2Proof.Machine.execDistD38 xdist s
  | .distD39 xdist => Sys2Proof.Machine.execDistD39 xdist s
  | .distD40 xdist => Sys2Proof.Machine.execDistD40 xdist s
  | .distD41 xdist => Sys2Proof.Machine.execDistD41 xdist s
  | .distD42 xdist => Sys2Proof.Machine.execDistD42 xdist s
  | .distD43 xdist => Sys2Proof.Machine.execDistD43 xdist s
  | .distD44 xdist => Sys2Proof.Machine.execDistD44 xdist s
  | .distD45 xdist => Sys2Proof.Machine.execDistD45 xdist s
  | .distD46 xdist => Sys2Proof.Machine.execDistD46 xdist s
  | .distD47 xdist => Sys2Proof.Machine.execDistD47 xdist s
  | .distD48 xdist => Sys2Proof.Machine.execDistD48 xdist s
  | .distD49 xdist => Sys2Proof.Machine.execDistD49 xdist s
  | .distD50 xdist => Sys2Proof.Machine.execDistD50 xdist s
  | .distD51 xdist => Sys2Proof.Machine.execDistD51 xdist s
  | .distD52 xdist => Sys2Proof.Machine.execDistD52 xdist s
  | .distD53 xdist => Sys2Proof.Machine.execDistD53 xdist s
  | .distD54 xdist => Sys2Proof.Machine.execDistD54 xdist s
  | .distD55 xdist => Sys2Proof.Machine.execDistD55 xdist s
  | .distD56 xdist => Sys2Proof.Machine.execDistD56 xdist s
  | .distD57 xdist => Sys2Proof.Machine.execDistD57 xdist s
  | .distD58 xdist => Sys2Proof.Machine.execDistD58 xdist s
  | .distD59 xdist => Sys2Proof.Machine.execDistD59 xdist s
  | .distD60 xdist => Sys2Proof.Machine.execDistD60 xdist s
  | .distD61 xdist => Sys2Proof.Machine.execDistD61 xdist s
  | .distD62 xdist => Sys2Proof.Machine.execDistD62 xdist s
  | .distD63 xdist => Sys2Proof.Machine.execDistD63 xdist s

end Sys2Proof.Machine
end

