-- ==== Sys2Proof/Machine/Tables.lean ====
section
/-!
DEFINITION. The constructed default tables, written out (41_huffman.md R128). The machine builds its tables in the header
step (43_decoder.md R162); these constants are for readers and for the table's words, and Laws/Tables.lean proves them
equal to what is built.
-/
namespace Sys2Proof.Machine

/-- The default literal table (R128). -/
def defaultLitTable : HuffmanTable where
  count := #v[0, 0, 0, 1, 11, 20, 21, 16, 7, 5, 10, 91, 74]
  symbol :=
    [32, 69, 97, 101, 105, 108, 110, 111, 114, 115, 116, 117, 45, 49, 65, 67, 68, 73, 76, 78, 79, 82] ++
    [83, 84, 98, 99, 100, 102, 103, 104, 109, 112, 10, 13, 40, 41, 44, 46, 48, 50, 51, 52, 53, 55] ++
    [56, 61, 66, 70, 77, 80, 85, 107, 119, 9, 34, 39, 42, 47, 54, 57, 58, 71, 72, 87, 91, 95] ++
    [118, 120, 121, 43, 62, 75, 86, 88, 89, 93, 33, 36, 38, 113, 122, 0, 60, 63, 74, 81, 90, 92] ++
    [106, 123, 124, 1, 2, 3, 4, 5, 6, 7, 8, 11, 12, 14, 15, 16, 17, 18, 19, 20, 21, 22] ++
    [23, 24, 25, 27, 28, 29, 30, 31, 35, 37, 59, 64, 94, 96, 125, 126, 127, 176, 177, 178, 179, 180] ++
    [181, 182, 183, 184, 185, 186, 187, 188, 189, 190, 191, 192, 193, 194, 195, 196, 197, 198, 199, 200, 201, 202] ++
    [203, 204, 205, 206, 207, 208, 209, 210, 211, 212, 213, 214, 215, 216, 217, 218, 219, 220, 221, 222, 223, 225] ++
    [229, 233, 238, 242, 243, 244, 26, 128, 129, 130, 131, 132, 133, 134, 135, 136, 137, 138, 139, 140, 141, 142] ++
    [143, 144, 145, 146, 147, 148, 149, 150, 151, 152, 153, 154, 155, 156, 157, 158, 159, 160, 161, 162, 163, 164] ++
    [165, 166, 167, 168, 169, 170, 171, 172, 173, 174, 175, 224, 226, 227, 228, 230, 231, 232, 234, 235, 236, 237] ++
    [239, 240, 241, 245, 246, 247, 248, 249, 250, 251, 252, 253, 254, 255]

/-- The default length table (R128). -/
def defaultLenTable : HuffmanTable where
  count := #v[0, 1, 3, 3, 4, 3, 2, 0, 0, 0, 0, 0, 0]
  symbol := List.range 16

/-- The default distance table (R128). -/
def defaultDistTable : HuffmanTable where
  count := #v[0, 1, 0, 2, 4, 15, 26, 16, 0, 0, 0, 0, 0]
  symbol := List.range 64

end Sys2Proof.Machine
end

