-- ==== Sys2Proof/Machine/Forms.lean ====
section
/-!
DEFINITION. The five shapes of instruction: what a constructor of `Instr` stands for (`Instr.form`) and the constructor
of a shape (`Form.toInstr`). Well-formedness, the decoder and the encoder are written over the shapes once, not once for
each of the 339 rows.
-/
namespace Sys2Proof

/-- What an instruction is, its symbol as a number. -/
inductive Form where
  | hdr (lit dictBits : BitVec 8)
  | litRaw (b : BitVec 8)
  /-- a Huffman literal: the symbol is the byte -/
  | litHuf (b : BitVec 8)
  /-- the length part of a match: length symbol and extra bits -/
  | matchLength (sym : Fin 16) (xlen : Nat)
  | endStream
  /-- the distance part of a match: distance symbol and extra bits -/
  | matchDist (dsym : Fin 64) (xdist : Nat)
  deriving DecidableEq, Repr

/-- The shape of an instruction. -/
def Instr.form : Instr → Form
  | .hdr l k => .hdr l k
  | .litRaw b => .litRaw b
  | .litHuf00 => .litHuf 0x00
  | .litHuf01 => .litHuf 0x01
  | .litHuf02 => .litHuf 0x02
  | .litHuf03 => .litHuf 0x03
  | .litHuf04 => .litHuf 0x04
  | .litHuf05 => .litHuf 0x05
  | .litHuf06 => .litHuf 0x06
  | .litHuf07 => .litHuf 0x07
  | .litHuf08 => .litHuf 0x08
  | .litHuf09 => .litHuf 0x09
  | .litHuf0A => .litHuf 0x0A
  | .litHuf0B => .litHuf 0x0B
  | .litHuf0C => .litHuf 0x0C
  | .litHuf0D => .litHuf 0x0D
  | .litHuf0E => .litHuf 0x0E
  | .litHuf0F => .litHuf 0x0F
  | .litHuf10 => .litHuf 0x10
  | .litHuf11 => .litHuf 0x11
  | .litHuf12 => .litHuf 0x12
  | .litHuf13 => .litHuf 0x13
  | .litHuf14 => .litHuf 0x14
  | .litHuf15 => .litHuf 0x15
  | .litHuf16 => .litHuf 0x16
  | .litHuf17 => .litHuf 0x17
  | .litHuf18 => .litHuf 0x18
  | .litHuf19 => .litHuf 0x19
  | .litHuf1A => .litHuf 0x1A
  | .litHuf1B => .litHuf 0x1B
  | .litHuf1C => .litHuf 0x1C
  | .litHuf1D => .litHuf 0x1D
  | .litHuf1E => .litHuf 0x1E
  | .litHuf1F => .litHuf 0x1F
  | .litHuf20 => .litHuf 0x20
  | .litHuf21 => .litHuf 0x21
  | .litHuf22 => .litHuf 0x22
  | .litHuf23 => .litHuf 0x23
  | .litHuf24 => .litHuf 0x24
  | .litHuf25 => .litHuf 0x25
  | .litHuf26 => .litHuf 0x26
  | .litHuf27 => .litHuf 0x27
  | .litHuf28 => .litHuf 0x28
  | .litHuf29 => .litHuf 0x29
  | .litHuf2A => .litHuf 0x2A
  | .litHuf2B => .litHuf 0x2B
  | .litHuf2C => .litHuf 0x2C
  | .litHuf2D => .litHuf 0x2D
  | .litHuf2E => .litHuf 0x2E
  | .litHuf2F => .litHuf 0x2F
  | .litHuf30 => .litHuf 0x30
  | .litHuf31 => .litHuf 0x31
  | .litHuf32 => .litHuf 0x32
  | .litHuf33 => .litHuf 0x33
  | .litHuf34 => .litHuf 0x34
  | .litHuf35 => .litHuf 0x35
  | .litHuf36 => .litHuf 0x36
  | .litHuf37 => .litHuf 0x37
  | .litHuf38 => .litHuf 0x38
  | .litHuf39 => .litHuf 0x39
  | .litHuf3A => .litHuf 0x3A
  | .litHuf3B => .litHuf 0x3B
  | .litHuf3C => .litHuf 0x3C
  | .litHuf3D => .litHuf 0x3D
  | .litHuf3E => .litHuf 0x3E
  | .litHuf3F => .litHuf 0x3F
  | .litHuf40 => .litHuf 0x40
  | .litHuf41 => .litHuf 0x41
  | .litHuf42 => .litHuf 0x42
  | .litHuf43 => .litHuf 0x43
  | .litHuf44 => .litHuf 0x44
  | .litHuf45 => .litHuf 0x45
  | .litHuf46 => .litHuf 0x46
  | .litHuf47 => .litHuf 0x47
  | .litHuf48 => .litHuf 0x48
  | .litHuf49 => .litHuf 0x49
  | .litHuf4A => .litHuf 0x4A
  | .litHuf4B => .litHuf 0x4B
  | .litHuf4C => .litHuf 0x4C
  | .litHuf4D => .litHuf 0x4D
  | .litHuf4E => .litHuf 0x4E
  | .litHuf4F => .litHuf 0x4F
  | .litHuf50 => .litHuf 0x50
  | .litHuf51 => .litHuf 0x51
  | .litHuf52 => .litHuf 0x52
  | .litHuf53 => .litHuf 0x53
  | .litHuf54 => .litHuf 0x54
  | .litHuf55 => .litHuf 0x55
  | .litHuf56 => .litHuf 0x56
  | .litHuf57 => .litHuf 0x57
  | .litHuf58 => .litHuf 0x58
  | .litHuf59 => .litHuf 0x59
  | .litHuf5A => .litHuf 0x5A
  | .litHuf5B => .litHuf 0x5B
  | .litHuf5C => .litHuf 0x5C
  | .litHuf5D => .litHuf 0x5D
  | .litHuf5E => .litHuf 0x5E
  | .litHuf5F => .litHuf 0x5F
  | .litHuf60 => .litHuf 0x60
  | .litHuf61 => .litHuf 0x61
  | .litHuf62 => .litHuf 0x62
  | .litHuf63 => .litHuf 0x63
  | .litHuf64 => .litHuf 0x64
  | .litHuf65 => .litHuf 0x65
  | .litHuf66 => .litHuf 0x66
  | .litHuf67 => .litHuf 0x67
  | .litHuf68 => .litHuf 0x68
  | .litHuf69 => .litHuf 0x69
  | .litHuf6A => .litHuf 0x6A
  | .litHuf6B => .litHuf 0x6B
  | .litHuf6C => .litHuf 0x6C
  | .litHuf6D => .litHuf 0x6D
  | .litHuf6E => .litHuf 0x6E
  | .litHuf6F => .litHuf 0x6F
  | .litHuf70 => .litHuf 0x70
  | .litHuf71 => .litHuf 0x71
  | .litHuf72 => .litHuf 0x72
  | .litHuf73 => .litHuf 0x73
  | .litHuf74 => .litHuf 0x74
  | .litHuf75 => .litHuf 0x75
  | .litHuf76 => .litHuf 0x76
  | .litHuf77 => .litHuf 0x77
  | .litHuf78 => .litHuf 0x78
  | .litHuf79 => .litHuf 0x79
  | .litHuf7A => .litHuf 0x7A
  | .litHuf7B => .litHuf 0x7B
  | .litHuf7C => .litHuf 0x7C
  | .litHuf7D => .litHuf 0x7D
  | .litHuf7E => .litHuf 0x7E
  | .litHuf7F => .litHuf 0x7F
  | .litHuf80 => .litHuf 0x80
  | .litHuf81 => .litHuf 0x81
  | .litHuf82 => .litHuf 0x82
  | .litHuf83 => .litHuf 0x83
  | .litHuf84 => .litHuf 0x84
  | .litHuf85 => .litHuf 0x85
  | .litHuf86 => .litHuf 0x86
  | .litHuf87 => .litHuf 0x87
  | .litHuf88 => .litHuf 0x88
  | .litHuf89 => .litHuf 0x89
  | .litHuf8A => .litHuf 0x8A
  | .litHuf8B => .litHuf 0x8B
  | .litHuf8C => .litHuf 0x8C
  | .litHuf8D => .litHuf 0x8D
  | .litHuf8E => .litHuf 0x8E
  | .litHuf8F => .litHuf 0x8F
  | .litHuf90 => .litHuf 0x90
  | .litHuf91 => .litHuf 0x91
  | .litHuf92 => .litHuf 0x92
  | .litHuf93 => .litHuf 0x93
  | .litHuf94 => .litHuf 0x94
  | .litHuf95 => .litHuf 0x95
  | .litHuf96 => .litHuf 0x96
  | .litHuf97 => .litHuf 0x97
  | .litHuf98 => .litHuf 0x98
  | .litHuf99 => .litHuf 0x99
  | .litHuf9A => .litHuf 0x9A
  | .litHuf9B => .litHuf 0x9B
  | .litHuf9C => .litHuf 0x9C
  | .litHuf9D => .litHuf 0x9D
  | .litHuf9E => .litHuf 0x9E
  | .litHuf9F => .litHuf 0x9F
  | .litHufA0 => .litHuf 0xA0
  | .litHufA1 => .litHuf 0xA1
  | .litHufA2 => .litHuf 0xA2
  | .litHufA3 => .litHuf 0xA3
  | .litHufA4 => .litHuf 0xA4
  | .litHufA5 => .litHuf 0xA5
  | .litHufA6 => .litHuf 0xA6
  | .litHufA7 => .litHuf 0xA7
  | .litHufA8 => .litHuf 0xA8
  | .litHufA9 => .litHuf 0xA9
  | .litHufAA => .litHuf 0xAA
  | .litHufAB => .litHuf 0xAB
  | .litHufAC => .litHuf 0xAC
  | .litHufAD => .litHuf 0xAD
  | .litHufAE => .litHuf 0xAE
  | .litHufAF => .litHuf 0xAF
  | .litHufB0 => .litHuf 0xB0
  | .litHufB1 => .litHuf 0xB1
  | .litHufB2 => .litHuf 0xB2
  | .litHufB3 => .litHuf 0xB3
  | .litHufB4 => .litHuf 0xB4
  | .litHufB5 => .litHuf 0xB5
  | .litHufB6 => .litHuf 0xB6
  | .litHufB7 => .litHuf 0xB7
  | .litHufB8 => .litHuf 0xB8
  | .litHufB9 => .litHuf 0xB9
  | .litHufBA => .litHuf 0xBA
  | .litHufBB => .litHuf 0xBB
  | .litHufBC => .litHuf 0xBC
  | .litHufBD => .litHuf 0xBD
  | .litHufBE => .litHuf 0xBE
  | .litHufBF => .litHuf 0xBF
  | .litHufC0 => .litHuf 0xC0
  | .litHufC1 => .litHuf 0xC1
  | .litHufC2 => .litHuf 0xC2
  | .litHufC3 => .litHuf 0xC3
  | .litHufC4 => .litHuf 0xC4
  | .litHufC5 => .litHuf 0xC5
  | .litHufC6 => .litHuf 0xC6
  | .litHufC7 => .litHuf 0xC7
  | .litHufC8 => .litHuf 0xC8
  | .litHufC9 => .litHuf 0xC9
  | .litHufCA => .litHuf 0xCA
  | .litHufCB => .litHuf 0xCB
  | .litHufCC => .litHuf 0xCC
  | .litHufCD => .litHuf 0xCD
  | .litHufCE => .litHuf 0xCE
  | .litHufCF => .litHuf 0xCF
  | .litHufD0 => .litHuf 0xD0
  | .litHufD1 => .litHuf 0xD1
  | .litHufD2 => .litHuf 0xD2
  | .litHufD3 => .litHuf 0xD3
  | .litHufD4 => .litHuf 0xD4
  | .litHufD5 => .litHuf 0xD5
  | .litHufD6 => .litHuf 0xD6
  | .litHufD7 => .litHuf 0xD7
  | .litHufD8 => .litHuf 0xD8
  | .litHufD9 => .litHuf 0xD9
  | .litHufDA => .litHuf 0xDA
  | .litHufDB => .litHuf 0xDB
  | .litHufDC => .litHuf 0xDC
  | .litHufDD => .litHuf 0xDD
  | .litHufDE => .litHuf 0xDE
  | .litHufDF => .litHuf 0xDF
  | .litHufE0 => .litHuf 0xE0
  | .litHufE1 => .litHuf 0xE1
  | .litHufE2 => .litHuf 0xE2
  | .litHufE3 => .litHuf 0xE3
  | .litHufE4 => .litHuf 0xE4
  | .litHufE5 => .litHuf 0xE5
  | .litHufE6 => .litHuf 0xE6
  | .litHufE7 => .litHuf 0xE7
  | .litHufE8 => .litHuf 0xE8
  | .litHufE9 => .litHuf 0xE9
  | .litHufEA => .litHuf 0xEA
  | .litHufEB => .litHuf 0xEB
  | .litHufEC => .litHuf 0xEC
  | .litHufED => .litHuf 0xED
  | .litHufEE => .litHuf 0xEE
  | .litHufEF => .litHuf 0xEF
  | .litHufF0 => .litHuf 0xF0
  | .litHufF1 => .litHuf 0xF1
  | .litHufF2 => .litHuf 0xF2
  | .litHufF3 => .litHuf 0xF3
  | .litHufF4 => .litHuf 0xF4
  | .litHufF5 => .litHuf 0xF5
  | .litHufF6 => .litHuf 0xF6
  | .litHufF7 => .litHuf 0xF7
  | .litHufF8 => .litHuf 0xF8
  | .litHufF9 => .litHuf 0xF9
  | .litHufFA => .litHuf 0xFA
  | .litHufFB => .litHuf 0xFB
  | .litHufFC => .litHuf 0xFC
  | .litHufFD => .litHuf 0xFD
  | .litHufFE => .litHuf 0xFE
  | .litHufFF => .litHuf 0xFF
  | .matchL0 => .matchLength 0 0
  | .matchL1 => .matchLength 1 0
  | .matchL2 => .matchLength 2 0
  | .matchL3 => .matchLength 3 0
  | .matchL4 => .matchLength 4 0
  | .matchL5 => .matchLength 5 0
  | .matchL6 => .matchLength 6 0
  | .matchL7 => .matchLength 7 0
  | .matchL8 x => .matchLength 8 x.toNat
  | .matchL9 x => .matchLength 9 x.toNat
  | .matchL10 x => .matchLength 10 x.toNat
  | .matchL11 x => .matchLength 11 x.toNat
  | .matchL12 x => .matchLength 12 x.toNat
  | .matchL13 x => .matchLength 13 x.toNat
  | .matchL14 x => .matchLength 14 x.toNat
  | .matchL15 x => .matchLength 15 x.toNat
  | .endStream => .endStream
  | .distD0 x => .matchDist 0 x
  | .distD1 x => .matchDist 1 x
  | .distD2 x => .matchDist 2 x
  | .distD3 x => .matchDist 3 x
  | .distD4 x => .matchDist 4 x
  | .distD5 x => .matchDist 5 x
  | .distD6 x => .matchDist 6 x
  | .distD7 x => .matchDist 7 x
  | .distD8 x => .matchDist 8 x
  | .distD9 x => .matchDist 9 x
  | .distD10 x => .matchDist 10 x
  | .distD11 x => .matchDist 11 x
  | .distD12 x => .matchDist 12 x
  | .distD13 x => .matchDist 13 x
  | .distD14 x => .matchDist 14 x
  | .distD15 x => .matchDist 15 x
  | .distD16 x => .matchDist 16 x
  | .distD17 x => .matchDist 17 x
  | .distD18 x => .matchDist 18 x
  | .distD19 x => .matchDist 19 x
  | .distD20 x => .matchDist 20 x
  | .distD21 x => .matchDist 21 x
  | .distD22 x => .matchDist 22 x
  | .distD23 x => .matchDist 23 x
  | .distD24 x => .matchDist 24 x
  | .distD25 x => .matchDist 25 x
  | .distD26 x => .matchDist 26 x
  | .distD27 x => .matchDist 27 x
  | .distD28 x => .matchDist 28 x
  | .distD29 x => .matchDist 29 x
  | .distD30 x => .matchDist 30 x
  | .distD31 x => .matchDist 31 x
  | .distD32 x => .matchDist 32 x
  | .distD33 x => .matchDist 33 x
  | .distD34 x => .matchDist 34 x
  | .distD35 x => .matchDist 35 x
  | .distD36 x => .matchDist 36 x
  | .distD37 x => .matchDist 37 x
  | .distD38 x => .matchDist 38 x
  | .distD39 x => .matchDist 39 x
  | .distD40 x => .matchDist 40 x
  | .distD41 x => .matchDist 41 x
  | .distD42 x => .matchDist 42 x
  | .distD43 x => .matchDist 43 x
  | .distD44 x => .matchDist 44 x
  | .distD45 x => .matchDist 45 x
  | .distD46 x => .matchDist 46 x
  | .distD47 x => .matchDist 47 x
  | .distD48 x => .matchDist 48 x
  | .distD49 x => .matchDist 49 x
  | .distD50 x => .matchDist 50 x
  | .distD51 x => .matchDist 51 x
  | .distD52 x => .matchDist 52 x
  | .distD53 x => .matchDist 53 x
  | .distD54 x => .matchDist 54 x
  | .distD55 x => .matchDist 55 x
  | .distD56 x => .matchDist 56 x
  | .distD57 x => .matchDist 57 x
  | .distD58 x => .matchDist 58 x
  | .distD59 x => .matchDist 59 x
  | .distD60 x => .matchDist 60 x
  | .distD61 x => .matchDist 61 x
  | .distD62 x => .matchDist 62 x
  | .distD63 x => .matchDist 63 x

/-- LIT.HUF rows by byte. -/
def litHufRows : List Instr :=
  List.flatten [
    [Instr.litHuf00, Instr.litHuf01, Instr.litHuf02, Instr.litHuf03, Instr.litHuf04, Instr.litHuf05, Instr.litHuf06, Instr.litHuf07],
    [Instr.litHuf08, Instr.litHuf09, Instr.litHuf0A, Instr.litHuf0B, Instr.litHuf0C, Instr.litHuf0D, Instr.litHuf0E, Instr.litHuf0F],
    [Instr.litHuf10, Instr.litHuf11, Instr.litHuf12, Instr.litHuf13, Instr.litHuf14, Instr.litHuf15, Instr.litHuf16, Instr.litHuf17],
    [Instr.litHuf18, Instr.litHuf19, Instr.litHuf1A, Instr.litHuf1B, Instr.litHuf1C, Instr.litHuf1D, Instr.litHuf1E, Instr.litHuf1F],
    [Instr.litHuf20, Instr.litHuf21, Instr.litHuf22, Instr.litHuf23, Instr.litHuf24, Instr.litHuf25, Instr.litHuf26, Instr.litHuf27],
    [Instr.litHuf28, Instr.litHuf29, Instr.litHuf2A, Instr.litHuf2B, Instr.litHuf2C, Instr.litHuf2D, Instr.litHuf2E, Instr.litHuf2F],
    [Instr.litHuf30, Instr.litHuf31, Instr.litHuf32, Instr.litHuf33, Instr.litHuf34, Instr.litHuf35, Instr.litHuf36, Instr.litHuf37],
    [Instr.litHuf38, Instr.litHuf39, Instr.litHuf3A, Instr.litHuf3B, Instr.litHuf3C, Instr.litHuf3D, Instr.litHuf3E, Instr.litHuf3F],
    [Instr.litHuf40, Instr.litHuf41, Instr.litHuf42, Instr.litHuf43, Instr.litHuf44, Instr.litHuf45, Instr.litHuf46, Instr.litHuf47],
    [Instr.litHuf48, Instr.litHuf49, Instr.litHuf4A, Instr.litHuf4B, Instr.litHuf4C, Instr.litHuf4D, Instr.litHuf4E, Instr.litHuf4F],
    [Instr.litHuf50, Instr.litHuf51, Instr.litHuf52, Instr.litHuf53, Instr.litHuf54, Instr.litHuf55, Instr.litHuf56, Instr.litHuf57],
    [Instr.litHuf58, Instr.litHuf59, Instr.litHuf5A, Instr.litHuf5B, Instr.litHuf5C, Instr.litHuf5D, Instr.litHuf5E, Instr.litHuf5F],
    [Instr.litHuf60, Instr.litHuf61, Instr.litHuf62, Instr.litHuf63, Instr.litHuf64, Instr.litHuf65, Instr.litHuf66, Instr.litHuf67],
    [Instr.litHuf68, Instr.litHuf69, Instr.litHuf6A, Instr.litHuf6B, Instr.litHuf6C, Instr.litHuf6D, Instr.litHuf6E, Instr.litHuf6F],
    [Instr.litHuf70, Instr.litHuf71, Instr.litHuf72, Instr.litHuf73, Instr.litHuf74, Instr.litHuf75, Instr.litHuf76, Instr.litHuf77],
    [Instr.litHuf78, Instr.litHuf79, Instr.litHuf7A, Instr.litHuf7B, Instr.litHuf7C, Instr.litHuf7D, Instr.litHuf7E, Instr.litHuf7F],
    [Instr.litHuf80, Instr.litHuf81, Instr.litHuf82, Instr.litHuf83, Instr.litHuf84, Instr.litHuf85, Instr.litHuf86, Instr.litHuf87],
    [Instr.litHuf88, Instr.litHuf89, Instr.litHuf8A, Instr.litHuf8B, Instr.litHuf8C, Instr.litHuf8D, Instr.litHuf8E, Instr.litHuf8F],
    [Instr.litHuf90, Instr.litHuf91, Instr.litHuf92, Instr.litHuf93, Instr.litHuf94, Instr.litHuf95, Instr.litHuf96, Instr.litHuf97],
    [Instr.litHuf98, Instr.litHuf99, Instr.litHuf9A, Instr.litHuf9B, Instr.litHuf9C, Instr.litHuf9D, Instr.litHuf9E, Instr.litHuf9F],
    [Instr.litHufA0, Instr.litHufA1, Instr.litHufA2, Instr.litHufA3, Instr.litHufA4, Instr.litHufA5, Instr.litHufA6, Instr.litHufA7],
    [Instr.litHufA8, Instr.litHufA9, Instr.litHufAA, Instr.litHufAB, Instr.litHufAC, Instr.litHufAD, Instr.litHufAE, Instr.litHufAF],
    [Instr.litHufB0, Instr.litHufB1, Instr.litHufB2, Instr.litHufB3, Instr.litHufB4, Instr.litHufB5, Instr.litHufB6, Instr.litHufB7],
    [Instr.litHufB8, Instr.litHufB9, Instr.litHufBA, Instr.litHufBB, Instr.litHufBC, Instr.litHufBD, Instr.litHufBE, Instr.litHufBF],
    [Instr.litHufC0, Instr.litHufC1, Instr.litHufC2, Instr.litHufC3, Instr.litHufC4, Instr.litHufC5, Instr.litHufC6, Instr.litHufC7],
    [Instr.litHufC8, Instr.litHufC9, Instr.litHufCA, Instr.litHufCB, Instr.litHufCC, Instr.litHufCD, Instr.litHufCE, Instr.litHufCF],
    [Instr.litHufD0, Instr.litHufD1, Instr.litHufD2, Instr.litHufD3, Instr.litHufD4, Instr.litHufD5, Instr.litHufD6, Instr.litHufD7],
    [Instr.litHufD8, Instr.litHufD9, Instr.litHufDA, Instr.litHufDB, Instr.litHufDC, Instr.litHufDD, Instr.litHufDE, Instr.litHufDF],
    [Instr.litHufE0, Instr.litHufE1, Instr.litHufE2, Instr.litHufE3, Instr.litHufE4, Instr.litHufE5, Instr.litHufE6, Instr.litHufE7],
    [Instr.litHufE8, Instr.litHufE9, Instr.litHufEA, Instr.litHufEB, Instr.litHufEC, Instr.litHufED, Instr.litHufEE, Instr.litHufEF],
    [Instr.litHufF0, Instr.litHufF1, Instr.litHufF2, Instr.litHufF3, Instr.litHufF4, Instr.litHufF5, Instr.litHufF6, Instr.litHufF7],
    [Instr.litHufF8, Instr.litHufF9, Instr.litHufFA, Instr.litHufFB, Instr.litHufFC, Instr.litHufFD, Instr.litHufFE, Instr.litHufFF]]

/-- DIST rows by distance symbol. -/
def distRows : List (Nat → Instr) :=
  List.flatten [
    [Instr.distD0, Instr.distD1, Instr.distD2, Instr.distD3, Instr.distD4, Instr.distD5, Instr.distD6, Instr.distD7],
    [Instr.distD8, Instr.distD9, Instr.distD10, Instr.distD11, Instr.distD12, Instr.distD13, Instr.distD14, Instr.distD15],
    [Instr.distD16, Instr.distD17, Instr.distD18, Instr.distD19, Instr.distD20, Instr.distD21, Instr.distD22, Instr.distD23],
    [Instr.distD24, Instr.distD25, Instr.distD26, Instr.distD27, Instr.distD28, Instr.distD29, Instr.distD30, Instr.distD31],
    [Instr.distD32, Instr.distD33, Instr.distD34, Instr.distD35, Instr.distD36, Instr.distD37, Instr.distD38, Instr.distD39],
    [Instr.distD40, Instr.distD41, Instr.distD42, Instr.distD43, Instr.distD44, Instr.distD45, Instr.distD46, Instr.distD47],
    [Instr.distD48, Instr.distD49, Instr.distD50, Instr.distD51, Instr.distD52, Instr.distD53, Instr.distD54, Instr.distD55],
    [Instr.distD56, Instr.distD57, Instr.distD58, Instr.distD59, Instr.distD60, Instr.distD61, Instr.distD62, Instr.distD63]]

/-- MATCH rows by length symbol, each with its extra bits cut to the width of the row. -/
def matchRows : List (Nat → Instr) :=
  List.flatten [
    [fun _ => Instr.matchL0, fun _ => Instr.matchL1, fun _ => Instr.matchL2, fun _ => Instr.matchL3],
    [fun _ => Instr.matchL4, fun _ => Instr.matchL5, fun _ => Instr.matchL6, fun _ => Instr.matchL7],
    [fun x => Instr.matchL8 (BitVec.ofNat 1 x), fun x => Instr.matchL9 (BitVec.ofNat 2 x), fun x => Instr.matchL10 (BitVec.ofNat 3 x), fun x => Instr.matchL11 (BitVec.ofNat 4 x)],
    [fun x => Instr.matchL12 (BitVec.ofNat 5 x), fun x => Instr.matchL13 (BitVec.ofNat 6 x), fun x => Instr.matchL14 (BitVec.ofNat 7 x), fun x => Instr.matchL15 (BitVec.ofNat 8 x)]]

/-- The MATCH row of a length symbol. -/
def matchRow (sym : Fin 16) (x : Nat) : Instr := matchRows.getD sym.val (fun _ => .matchL0) x

/-- The LIT.HUF row of a byte. -/
def litHufRow (b : BitVec 8) : Instr := litHufRows.getD b.toNat .litHuf00

/-- The DIST row of a distance symbol. -/
def distRow (dsym : Fin 64) (x : Nat) : Instr := distRows.getD dsym.val (fun x => .distD0 x) x

/-- The instruction of a shape. -/
def Form.toInstr : Form → Instr
  | .hdr l k => .hdr l k
  | .litRaw b => .litRaw b
  | .litHuf b => litHufRow b
  | .matchLength sym x => matchRow sym x
  | .endStream => .endStream
  | .matchDist dsym x => distRow dsym x

end Sys2Proof
end

