-- ==== Sys2Proof/WellFormed.lean ====
section
/-!
DEFINITION. Which operands an instruction may have (30_encoding.md R71, R77, R78, R88). The width of a distance's extra
bits depends on the match in progress and is checked with the context (`Context.fits`, Decode.lean); here they are
bounded by the widest, 6.
-/
namespace Sys2Proof

open Sys2Proof.Machine

/-- A shape whose operands the spec allows: a legal header (R71); extra bits that fit the length symbol and do not
spell the end marker (R77, R84); extra bits below `2^6` (R78). -/
def Form.wellFormed : Form → Bool
  | .hdr lit dictBits => legalLit lit && legalDictBits dictBits
  | .litRaw _ => true
  | .litHuf _ => true
  | .matchLength sym xlen => decide (xlen < 2 ^ lengthExtra sym) && lengthOf sym xlen != endLength
  | .endStream => true
  | .matchDist _ xdist => decide (xdist < 2 ^ 6)

/-- An instruction whose operands the spec allows. -/
def Instr.wellFormed (i : Instr) : Bool := i.form.wellFormed

end Sys2Proof
end

