-- ==== Sys2Proof/Decode.lean ====
section
/-!
DEFINITION. The decoder and the encoder. What the next bits mean depends on where the decoder stands: before the header,
at the flag of a unit, or between the length and the distance of a match (30_encoding.md R70 to R76, R85). That is the
`Context`. The decoder is total and rejects by name (`Stop`).
-/
namespace Sys2Proof

open Sys2Proof.Machine

/-- Where the next bits stand, with all that their meaning depends on (R85). -/
inductive Context where
  /-- the two header bytes (R71) -/
  | header
  /-- the flag of a unit (R72): the coding mode and the tables a unit is read with -/
  | unit (lit : BitVec 1) (litTable lenTable : Option HuffmanTable)
  /-- fields 4 and 5 of a match (R75): the extra-bit count and the distance table -/
  | distance (k : Nat) (distTable : Option HuffmanTable)
  deriving DecidableEq, Repr

/-- One symbol below `n` of a table (41_huffman.md R123; the bound is 00_scope.md R8). -/
def readSymbol (n : Nat) (T : Option HuffmanTable) (inp : List Byte) (r : BitReader) :
    Except Stop (Fin n × BitReader) :=
  match T with
  | none => .error .tableNotBuilt
  | some T =>
    match decodeSymbol T inp r with
    | .error e => .error e
    | .ok (s, r) => if h : s < n then .ok (⟨s, h⟩, r) else .error .symbolOutOfRange

/-- The header bytes (43_decoder.md R161): byte 0 is checked before byte 1 is read (D9). -/
def readHeader (inp : List Byte) (r : BitReader) : Except Stop (Form × BitReader) := do
  let (v0, r) ← bits inp 8 r
  if legalLit (BitVec.ofNat 8 v0) then
    let (v1, r) ← bits inp 8 r
    return (.hdr (BitVec.ofNat 8 v0) (BitVec.ofNat 8 v1), r)
  else throw (.raise .invalidHeader)

/-- A literal after its flag (R163): Huffman coded when `lit` is 1, else 8 raw bits (R165, R164). -/
def readLiteral (lit : BitVec 1) (litTable : Option HuffmanTable) (inp : List Byte) (r : BitReader) :
    Except Stop (Form × BitReader) :=
  if lit = 1 then do
    let (s, r) ← readSymbol 256 litTable inp r
    return (.litHuf (BitVec.ofFin s), r)
  else do
    let (b, r) ← bits inp 8 r
    return (.litRaw (BitVec.ofNat 8 b), r)

/-- A match length after its flag (43_decoder.md R166): the symbol, then its extra bits; the length 519 is END
(R167). -/
def readLength (lenTable : Option HuffmanTable) (inp : List Byte) (r : BitReader) :
    Except Stop (Form × BitReader) := do
  let (sym, r) ← readSymbol 16 lenTable inp r
  let (xlen, r) ← bits inp (lengthExtra sym) r
  return (if lengthOf sym xlen = endLength then .endStream else .matchLength sym xlen, r)

/-- A match distance (43_decoder.md R168): the symbol before the extra bits. -/
def readDistance (k : Nat) (distTable : Option HuffmanTable) (inp : List Byte) (r : BitReader) :
    Except Stop (Form × BitReader) := do
  let (dsym, r) ← readSymbol 64 distTable inp r
  let (xdist, r) ← bits inp k r
  return (.matchDist dsym xdist, r)

/-- Read one instruction (43_decoder.md R160, R163): in a unit the flag comes first. -/
def readForm (ctx : Context) (inp : List Byte) (r : BitReader) : Except Stop (Form × BitReader) :=
  match ctx with
  | .header => readHeader inp r
  | .unit lit litTable lenTable => do
    let (f, r) ← bits inp 1 r
    if f = 0 then readLiteral lit litTable inp r else readLength lenTable inp r
  | .distance k distTable => readDistance k distTable inp r

/-- The decoder: the instruction that the bits at the reader's position are, and the reader after it. -/
def decode (ctx : Context) (inp : List Byte) (r : BitReader) : Except Stop (Instr × BitReader) :=
  match readForm ctx inp r with
  | .error e => .error e
  | .ok (f, r) => .ok (f.toInstr, r)

/-! ## The encoder -/

/-- The bits of an instruction in stream order, in a context where it can stand (R71, R73 to R76, R79, R88). -/
def encodeForm : Context → Form → Option (List Bool)
  | .header, .hdr lit dictBits => some (rawBits 8 lit.toNat ++ rawBits 8 dictBits.toNat)
  | .unit lit _ _, .litRaw b => if lit = 1 then none else some (false :: rawBits 8 b.toNat)
  | .unit lit litTable _, .litHuf b =>
    if lit = 1 then (litTable.bind fun T => codeBits T b.toNat).map fun c => false :: c else none
  | .unit _ _ lenTable, .matchLength sym xlen =>
    (lenTable.bind fun T => codeBits T sym.val).map fun c => true :: (c ++ rawBits (lengthExtra sym) xlen)
  | .unit _ _ lenTable, .endStream =>
    (lenTable.bind fun T => codeBits T 15).map fun c => true :: (c ++ rawBits 8 255)
  | .distance k distTable, .matchDist dsym xdist =>
    (distTable.bind fun T => codeBits T dsym.val).map fun c => c ++ rawBits k xdist
  | _, _ => none

/-- The encoder: the words of an instruction are bits in stream order, since units are not byte aligned (R70). -/
def encode (ctx : Context) (i : Instr) : Option (List Bool) := encodeForm ctx i.form

/-- An instruction that can stand in a context: its kind is the one the context reads, and the extra bits of a distance
fit `k` (R73 to R78). -/
def Context.fits : Context → Form → Bool
  | .header, .hdr _ _ => true
  | .unit lit _ _, .litRaw _ => lit != 1
  | .unit lit _ _, .litHuf _ => lit == 1
  | .unit _ _ _, .matchLength _ _ => true
  | .unit _ _ _, .endStream => true
  | .distance k _, .matchDist _ xdist => decide (k ≤ 16) && decide (xdist < 2 ^ k)
  | _, _ => false

/-! ## The words of the opcode table

A row's pattern is written in stream order, and the table's `fixed` numbers it as one number whose most significant bit
is the first bit read (END is 0x80FF there). A number says neither how many bits its pattern has nor in which context it
stands, so the contexts and the widths are tried in a fixed order (notes/assumptions/13.md). -/

/-- More zero bits than any instruction can ask for after its pattern (R85: the longest unit has 30 bits). -/
def zeroTail : List Bool := List.replicate 40 false

/-- The contexts a word of the table is tried in: a unit of a Huffman-coded stream, the distance of a match with
`k = 4`, the header, a unit of a raw stream. -/
def tableContexts : List Context :=
  [.unit 1 (some defaultLitTable) (some defaultLenTable), .distance 4 (some defaultDistTable), .header,
    .unit 0 none (some defaultLenTable)]

/-- The bits a context reads beyond the table's pattern: a DIST row leaves out its `k` raw bits. -/
def Context.bitsBeyondPattern : Context → Nat
  | .distance k _ => k
  | _ => 0

/-- The instruction of a pattern of `width` bits in a context, if it is well formed and the decoder reads exactly the
pattern. -/
def readPattern (ctx : Context) (width w : Nat) : Option Instr :=
  match decode ctx (packBytes (msbBits width w ++ zeroTail) 10) BitReader.init with
  | .error _ => none
  | .ok (i, r) => if i.wellFormed && r.bitpos == width + ctx.bitsBeyondPattern then some i else none

/-- The first context and instruction that a pattern of `width` bits has. -/
def readInContexts (width w : Nat) : List Context → Option (Context × Nat × Instr)
  | [] => none
  | ctx :: rest =>
    match readPattern ctx width w with
    | some i => some (ctx, width, i)
    | none => readInContexts width w rest

/-- The context, width and instruction of the number `w`: widths from `width` downwards, `tries` of them, as far as
`w` fits. -/
def readTableWord (w : Nat) : (tries width : Nat) → Option (Context × Nat × Instr)
  | 0, _ => none
  | tries + 1, width =>
    if width = 0 ∨ 2 ^ width ≤ w then none
    else
      match readInContexts width w tableContexts with
      | some found => some found
      | none => readTableWord w tries (width - 1)

/-- The instruction of a row of the opcode table whose pattern, as the table numbers it, is `w`; `nbits` is the width of
the pattern rounded up to whole bytes. -/
def decodeTableWord (nbits w : Nat) : Option Instr :=
  (readTableWord w 8 nbits).map fun found => found.2.2

end Sys2Proof
end

