-- ==== Sys2Proof/Machine/Fetch.lean ====
section
/-!
DEFINITION. Fetching an instruction: the context the state is in, the reading of the next bits, what a stop of the
reading does, and how a word is placed where the next fetch reads it.
-/
namespace Sys2Proof.Machine

/-- The context of the next bits (43_decoder.md R160, R163, R168). A state that is Done or Failed reads nothing more;
its context is never used. -/
def State.context (s : State) : Context :=
  match s.phase with
  | .readHeader => .header
  | .decodeLoop | .done | .failed =>
    match s.matchLen with
    | none => .unit s.lit s.litTable s.lenTable
    | some length => .distance (distanceExtra length s.dictBits) s.distTable

/-- The next instruction and the reader after it. -/
def fetch (s : State) : Except Stop (Instr × BitReader) := decode s.context s.inp s.br

/-- The state with the reader moved past the bits read. -/
def State.advance (s : State) (r : BitReader) : State := { s with br := r }

/-- What a stop of the reading does: a decode failure is taken (60_exceptions.md R206); the others have no meaning. -/
def takeStop (e : Stop) (s : State) : Host.Outcome State Fault Refusal :=
  match e with
  | .raise e => .next (raise e s)
  | .bitsTooWide => .refused .bitsTooWide
  | .tableNotBuilt => .fault .tableNotBuilt
  | .symbolOutOfRange => .refused .symbolOutOfRange

/-- Put stream bits where the reader stands: the bits it holds already are replaced, the others become the rest of the
input, and the position stays. -/
def State.placeBits (s : State) (bits : List Bool) : State :=
  { s with
    inp := s.inp.take s.br.cur ++ List.replicate (s.br.cur - s.inp.length) 0 ++
      packBytes (bits.drop s.br.cnt) ((bits.length + 7) / 8)
    br := { s.br with acc := natOfBits (bits.take s.br.cnt) } }

/-- Bring the state to where bits of a context are read next: the phase, and the registers that the context is made of.
A distance stands after a match length, here 3, with `dict_bits` its extra-bit count. -/
def State.enter (s : State) : Context → State
  | .header => { s with phase := .readHeader }
  | .unit lit litTable lenTable =>
    { s with phase := .decodeLoop, matchLen := none, lit := lit, litTable := litTable, lenTable := lenTable }
  | .distance k distTable =>
    { s with phase := .decodeLoop, matchLen := some 3, dictBits := BitVec.ofNat 8 k, distTable := distTable }

/-- The state that fetches the word `w` of the opcode table next (see `readTableWord`). A word that is no row's is placed
as a unit's bits. -/
def State.placeTableWord (s : State) (nbits w : Nat) : State :=
  match readTableWord w 8 nbits with
  | some (ctx, width, _) => (s.enter ctx).placeBits (msbBits width w ++ zeroTail)
  | none => s.placeBits (msbBits nbits w ++ zeroTail)

end Sys2Proof.Machine
end

