-- ==== Sys2Proof/Machine/Step.lean ====
section
/-!
DEFINITION. One step of the machine: in ReadHeader the header, in DecodeLoop a literal, an END, or one of the two parts of a
match (43_decoder.md R160, notes/assumptions/1.md); Done and Failed are terminal (R171, 60_exceptions.md R207).
-/
namespace Sys2Proof.Machine

/-- Read the next instruction, move past its bits, run it. -/
def runNext (s : State) : Host.Outcome State Fault Refusal :=
  match fetch s with
  | .error e => takeStop e s
  | .ok (i, r) => exec i (s.advance r)

/-- One step (R160). -/
def step (s : State) : Host.Outcome State Fault Refusal :=
  match s.phase with
  | .readHeader => runNext s
  | .decodeLoop => runNext s
  | .done => .fault .haltedDone
  | .failed => .fault .haltedFailed

/-- The state whose next step runs the opcode-table word `w` (notes/assumptions/14.md). -/
def State.withFetchWord (s : State) (nbits w : Nat) : State := s.placeTableWord nbits w

end Sys2Proof.Machine
end

