-- ==== Sys2Proof/Reference.lean ====
section
/-!
DEFINITION. The whole decode as one function of the input (43_decoder.md R175), written without the machine: an abstract
bit position instead of the reader's registers (40_bitreader.md R101), the output alone instead of the window, which
10_state.md R32 allows ("A model may keep `out` alone"), and no state. The claims compare the machine with it.
-/
namespace Sys2Proof.Reference

open Sys2Proof.Machine

/-- `bits(n)` at a bit position (R101). -/
def take (inp : List Byte) (n pos : Nat) : Except DecodeError (Nat × Nat) :=
  if pos + n > 8 * inp.length then .error .unexpectedEndOfInput
  else .ok (streamField inp pos n, pos + n)

/-- `decode(T)` (41_huffman.md R123) at a bit position: lengths `L` to 13 are left. -/
def symbolLoop (inp : List Byte) (lens : List Nat) :
    (left L code first pos : Nat) → Except DecodeError (Nat × Nat)
  | 0, _, _, _, _ => .error .invalidHuffmanCode
  | left + 1, L, code, first, pos =>
    match take inp 1 pos with
    | .error e => .error e
    | .ok (b, pos) =>
      let code := 2 * code + (1 - b)
      if code < first + countOf lens L then .ok ((symbolsOf lens L).getD (code - first) 0, pos)
      else symbolLoop inp lens left (L + 1) code (2 * (first + countOf lens L)) pos

/-- One symbol of the table of `lens`. -/
def symbol (lens : List Nat) (inp : List Byte) (pos : Nat) : Except DecodeError (Nat × Nat) :=
  symbolLoop inp lens 13 1 0 0 pos

/-- The copy on the output alone (R170 with R146): `n` times the byte `d` back. -/
def copy (d : Nat) : (n : Nat) → List Byte → List Byte
  | 0, out => out
  | n + 1, out => copy d n (out ++ [out.getD (out.length - d) 0])

/-- What one unit gives: the end, or the next position and output. -/
inductive Progress where
  | ended (out : List Byte)
  | more (pos : Nat) (out : List Byte)
  deriving DecidableEq, Repr

/-- One iteration of the decode loop (R163 to R170). -/
def unit (P : Config.TableParams) (lit dictBits : Nat) (inp : List Byte) (pos : Nat) (out : List Byte) :
    Except DecodeError Progress := do
  let (flag, pos) ← take inp 1 pos
  if flag = 0 then
    let (b, pos) ← if lit = 1 then symbol (expand P.litlen) inp pos else take inp 8 pos
    return .more pos (out ++ [BitVec.ofNat 8 b])
  else
    let (sym, pos) ← symbol (expand P.lenlen) inp pos
    let (xlen, pos) ← take inp (extra.getD sym 0) pos
    let length := base.getD sym 0 + xlen
    if length = 519 then return .ended out
    else
      let k := if length = 2 then 2 else dictBits
      let (dsym, pos) ← symbol (expand P.distlen) inp pos
      let (xdist, pos) ← take inp k pos
      let distance := dsym * 2 ^ k + xdist + 1
      if distance > min out.length 4096 then throw .corruptStream
      else return .more pos (copy distance length out)

/-- The loop, for at most `fuel` units. -/
def units (P : Config.TableParams) (lit dictBits : Nat) (inp : List Byte) :
    (fuel pos : Nat) → List Byte → Except DecodeError (List Byte)
  | 0, _, _ => .error .unexpectedEndOfInput
  | fuel + 1, pos, out =>
    match unit P lit dictBits inp pos out with
    | .error e => .error e
    | .ok (.ended out) => .ok out
    | .ok (.more pos out) => units P lit dictBits inp fuel pos out

/-- The decode of an input (R175). Every unit takes at least its flag bit, so as many units as the input has bits, and
one more, are enough (R174). -/
def decode (P : Config.TableParams) (inp : List Byte) : Except DecodeError (List Byte) := do
  let (v0, pos) ← take inp 8 0
  if v0 > 1 then throw .invalidHeader
  else
    let (v1, pos) ← take inp 8 pos
    if v1 < 4 ∨ v1 > 6 then throw .invalidHeader
    else units P v0 v1 inp (8 * inp.length + 1) pos []

end Sys2Proof.Reference
end

