-- ==== Sys2Proof/Safety.lean ====
section
/-!
DEFINITION. What holds of a decoder between its steps, in the terms the claims use: the reader agrees with the bit stream
(10_state.md R21, R22), the window agrees with the output (R32), the tables are the built ones (43_decoder.md R162).
-/
namespace Sys2Proof.Machine

/-- The reader agrees with the stream (R22): fewer than 8 bits are held, all from bytes already fetched, and `acc` holds
exactly the bits `S[bitpos .. bitpos + cnt - 1]`. -/
def BitReader.Agrees (inp : List Byte) (r : BitReader) : Prop :=
  r.cnt ≤ 7 ∧ r.cnt ≤ 8 * r.cur ∧ r.cur ≤ inp.length ∧ r.acc = streamField inp r.bitpos r.cnt

/-- The bits `code` are the next bits of the stream at position `p`, and the input has them all. -/
def StreamHas (inp : List Byte) (p : Nat) (code : List Bool) : Prop :=
  p + code.length ≤ 8 * inp.length ∧ ∀ j, j < code.length → code[j]? = some (streamBit inp (p + j))

/-- Window and output agree (R32 (a) to (d)). -/
def HistoryAgrees (out : List Byte) (w : SlidingWindow) : Prop :=
  w.pos.val = out.length % 4096 ∧
  w.wrapped = decide (4096 ≤ out.length) ∧
  (∀ d, 1 ≤ d → d ≤ min out.length 4096 → Memory.read w.win (readBackAddr w.pos d) = out[out.length - d]?) ∧
  (∀ a, (Memory.read w.win a).isSome = decide (a < min out.length 4096))

/-- The header step has run: the tables of this machine are there (R162) and `dict_bits` is legal (R27). -/
def HeaderDone (s : State) : Prop :=
  (s.lit = 1 → s.litTable = some (buildLit tableParams)) ∧
  s.lenTable = some (buildLen tableParams) ∧
  s.distTable = some (buildDist tableParams) ∧
  legalDictBits s.dictBits = true

/-- The invariant of the machine. In Failed only `phase`, `err` and the form of the memory say anything
(60_exceptions.md R206). -/
def State.Inv (s : State) : Prop :=
  Memory.wf s.sw.win = true ∧
  (s.phase = .failed → s.err ≠ none) ∧
  (s.phase ≠ .failed →
    s.err = none ∧ BitReader.Agrees s.inp s.br ∧ HistoryAgrees s.out s.sw) ∧
  (s.phase = .readHeader → s.bitpos = 0 ∧ s.matchLen = none) ∧
  (s.phase = .decodeLoop → HeaderDone s ∧ ∀ n, s.matchLen = some n → 2 ≤ n ∧ n ≤ 518)

/-- The decoder has more to do: it is in ReadHeader or DecodeLoop (R160). -/
def State.running (s : State) : Bool := s.phase == .readHeader || s.phase == .decodeLoop

/-- A step that took the failure `e` (60_exceptions.md R206). -/
def FailsWith (o : Host.Outcome State Fault Refusal) (e : DecodeError) : Prop :=
  ∃ t, o = .next t ∧ t.phase = .failed ∧ t.err = some e

/-- One UNIT as the spec's own step takes it (R160): the length part of a match is followed by its distance part in the
same step (notes/assumptions/1.md). -/
def unitStep (s : State) : Host.Outcome State Fault Refusal :=
  match step s with
  | .next t => if t.running && t.matchLen.isSome then step t else .next t
  | stop => stop

/-- The sum of `2 ^ (13 - L)` over the coded symbols: a table is over-subscribed when it is above `2 ^ 13`, complete when
it is equal (41_huffman.md R126). -/
def kraftSum (lens : List Nat) : Nat :=
  (lens.map fun L => if 1 ≤ L ∧ L ≤ 13 then 2 ^ (13 - L) else 0).sum

/-- A context of this machine after its header: the built tables, and extra-bit counts a match can have (R78). -/
def MachineContext : Context → Prop
  | .header => True
  | .unit lit litTable lenTable =>
    (lit = 1 → litTable = some (buildLit tableParams)) ∧ lenTable = some (buildLen tableParams)
  | .distance k distTable => (k = 2 ∨ k = 4 ∨ k = 5 ∨ k = 6) ∧ distTable = some (buildDist tableParams)

end Sys2Proof.Machine
end

