-- ==== Sys2Proof/Certificates/Slice0/Obligations.lean ====
section
/-!
DEFINITION. The statements for the provers, from the numbered rules of spec/, file by file. OBLIGATIONS.json says of each
what it formalises. Nothing is proved here.
-/

open Sys2Proof Sys2Proof.Machine

/-! ## Reset (10_state.md, 70_reset_and_hazards.md) -/

/-- R100 and R140: reset makes a fresh BitReader and SlidingWindow, whatever the state before it was. -/
def Obligations.ResetMakesFreshSubBlocks : Prop :=
  (∀ s : State,
    s.hostReset.br.cur = 0 ∧ s.hostReset.br.acc = 0 ∧ s.hostReset.br.cnt = 0 ∧ s.hostReset.bitpos = 0 ∧
    s.hostReset.sw.pos.val = 0 ∧ s.hostReset.sw.wrapped = false ∧
    ∀ a, Memory.read s.hostReset.sw.win a = none) ∧
  (∃ r, bits [0x00, 0x04] 8 (State.start [0x00, 0x04]).br = .ok (0x00, r)) ∧
  (∀ s s' : State, s.inp = s'.inp → s.hostReset = s'.hostReset)

/-- R33 and R230, the values the spec states: output empty, no failure, no table, phase ReadHeader. -/
def Obligations.ResetLeavesDecoderIdle : Prop :=
  ∀ inp : List Byte,
    (State.start inp).inp = inp ∧ (State.start inp).out = [] ∧
    (State.start inp).err = none ∧ (State.start inp).errCode = 0 ∧
    (State.start inp).phase = .readHeader ∧ (State.start inp).phase.code = 0 ∧
    (State.start inp).litTable = none ∧ (State.start inp).lenTable = none ∧ (State.start inp).distTable = none ∧
    (State.start inp).outcome = none

/-! ## BitReader (40_bitreader.md) -/

/-- R104: `bits(0)` returns 0, reads nothing and never fails, in every state of the reader. -/
def Obligations.BitsOfZeroReadsNothing : Prop :=
  ∀ (inp : List Byte) (r : BitReader), bits inp 0 r = .ok (0, r)

/-- R101: the register form meets the abstract contract of `bits(n)`. -/
def Obligations.BitsMeetsAbstractContract : Prop :=
  ∀ (inp : List Byte) (r : BitReader) (n : Nat), BitReader.Agrees inp r → n ≤ 16 →
    (r.bitpos + n ≤ 8 * inp.length →
      streamField inp r.bitpos n < 2 ^ n ∧
      ∃ r', bits inp n r = .ok (streamField inp r.bitpos n, r') ∧
        r'.bitpos = r.bitpos + n ∧ BitReader.Agrees inp r') ∧
    (8 * inp.length < r.bitpos + n → bits inp n r = .error (.raise .unexpectedEndOfInput))

/-- R106 (e): two requests give what one request for both gives, and leave the same reader. -/
def Obligations.BitsRequestsCompose : Prop :=
  ∀ (inp : List Byte) (r r₁ r₂ : BitReader) (a b va vb : Nat), BitReader.Agrees inp r → a + b ≤ 16 →
    bits inp a r = .ok (va, r₁) → bits inp b r₁ = .ok (vb, r₂) →
    bits inp (a + b) r = .ok (va + (vb <<< a), r₂)

/-- R31: between operations the byte cursor is the bit position rounded up, so no byte beyond the next bit was
fetched. -/
def Obligations.CursorIsPositionRoundedUp : Prop :=
  ∀ (inp : List Byte) (r : BitReader), BitReader.Agrees inp r →
    r.cur = (r.bitpos + 7) / 8 ∧ r.bitpos ≤ 8 * inp.length

/-- R105, the model's refusal (log entry 9): a request for more than 16 bits is refused by name. -/
def Obligations.BitsAboveSixteenRefused : Prop :=
  ∀ (inp : List Byte) (n : Nat) (r : BitReader), 16 < n → bits inp n r = .error .bitsTooWide

/-! ## HuffmanTable (41_huffman.md) -/

/-- R121 and R122: the counts, and the symbol array as the list of coded symbols sorted by (length, index). -/
def Obligations.TableHoldsCodedSymbolsInOrder : Prop :=
  ∀ lens : List Nat,
    (∀ L, (h : 1 ≤ L ∧ L ≤ 13) → (buildTable lens).count[L - 1]'(by omega) =
      ((List.range lens.length).filter fun s => lens[s]? == some L).length) ∧
    (buildTable lens).symbol.length = (buildTable lens).count.toList.sum ∧
    (∀ s, s ∈ (buildTable lens).symbol ↔ ∃ L, lens[s]? = some L ∧ 1 ≤ L ∧ L ≤ 13) ∧
    (buildTable lens).symbol.Pairwise fun s t =>
      lens.getD s 0 < lens.getD t 0 ∨ (lens.getD s 0 = lens.getD t 0 ∧ s < t)

/-- R79 and R123: in a table that is not over-subscribed, the code of a symbol decodes to the symbol, for every symbol
that has a length. -/
def Obligations.HuffmanCodeDecodesToItsSymbol : Prop :=
  ∀ (lens : List Nat) (s L : Nat), (∀ l ∈ lens, l ≤ 13) → kraftSum lens ≤ 2 ^ 13 →
    lens[s]? = some L → 1 ≤ L →
    ∃ c, codeBits (buildTable lens) s = some c ∧ c.length = L ∧
      ∀ (inp : List Byte) (r : BitReader), BitReader.Agrees inp r → StreamHas inp r.bitpos c →
        ∃ r', decodeSymbol (buildTable lens) inp r = .ok (s, r') ∧ r'.bitpos = r.bitpos + L ∧
          BitReader.Agrees inp r'

/-- R126: a complete table gives a symbol or meets the end of the input, never `InvalidHuffmanCode`. -/
def Obligations.CompleteTableAlwaysMatches : Prop :=
  ∀ lens : List Nat, (∀ l ∈ lens, l ≤ 13) → kraftSum lens = 2 ^ 13 →
    ∀ (inp : List Byte) (r : BitReader), BitReader.Agrees inp r →
      (∃ s r', decodeSymbol (buildTable lens) inp r = .ok (s, r') ∧ s ∈ (buildTable lens).symbol ∧
        r.bitpos < r'.bitpos ∧ BitReader.Agrees inp r') ∨
      decodeSymbol (buildTable lens) inp r = .error (.raise .unexpectedEndOfInput)

/-- R124 and R125: a built table, complete or not, fails in two ways only; `InvalidHuffmanCode` needs 13 bits of input,
and `UnexpectedEndOfInput` comes where there are fewer. -/
def Obligations.SymbolDecodeFailsByRule : Prop :=
  ∀ (lens : List Nat) (inp : List Byte) (r : BitReader) (e : Stop), BitReader.Agrees inp r →
    decodeSymbol (buildTable lens) inp r = .error e →
    (e = .raise .unexpectedEndOfInput ∧ 8 * inp.length < r.bitpos + 13) ∨
    (e = .raise .invalidHuffmanCode ∧ r.bitpos + 13 ≤ 8 * inp.length)

/-- R8 and R126 on the default specifications, which the source does not give (log entry 4, PRESUMED): they are well
formed, complete, and have 256, 16 and 64 symbols. -/
def Obligations.DefaultSpecsWellFormedAndComplete : Prop :=
  wfParams tableParams = true ∧
  (expand litlenSpec).length = 256 ∧ (expand lenlenSpec).length = 16 ∧ (expand distlenSpec).length = 64 ∧
  kraftSum (expand litlenSpec) = 2 ^ 13 ∧ kraftSum (expand lenlenSpec) = 2 ^ 13 ∧
  kraftSum (expand distlenSpec) = 2 ^ 13

/-! ## SlidingWindow (42_window.md) -/

/-- R141: a push writes the one cell at `pos`, moves `pos` on modulo 4096 and sets `wrapped` when `pos` is 0 again. -/
def Obligations.PushWritesOneCellAndMovesOn : Prop :=
  ∀ (b : Byte) (w : SlidingWindow),
    Memory.read (push b w).win w.pos.val = some b ∧
    (∀ a, a ≠ w.pos.val → Memory.read (push b w).win a = Memory.read w.win a) ∧
    (push b w).pos.val = (w.pos.val + 1) % 4096 ∧
    ((push b w).wrapped = true ↔ w.wrapped = true ∨ (push b w).pos.val = 0)

/-- R142 and R143: in the domain, `read_back(d)` fails exactly when the history does not reach that far, and else reads
the cell `(pos + 4096 - d) mod 4096`. -/
def Obligations.ReadBackChecksThenReads : Prop :=
  ∀ (d : Nat) (w : SlidingWindow), 1 ≤ d → d ≤ 4096 →
    (w.wrapped = false ∧ w.pos.val < d → readBack d w = .error .distanceTooFar) ∧
    (¬(w.wrapped = false ∧ w.pos.val < d) →
      ∀ b, Memory.read w.win ((w.pos.val + 4096 - d) % 4096) = some b → readBack d w = .ok b)

/-- R59 (a): a push is what the next `read_back(1)` returns, and every older byte moves one further back. -/
def Obligations.PushShiftsHistoryByOne : Prop :=
  ∀ (b : Byte) (w : SlidingWindow),
    readBack 1 (push b w) = .ok b ∧
    ∀ d, 1 ≤ d → d ≤ 4095 → readBack (d + 1) (push b w) = readBack d w

/-- R146: where window and output agree, `read_back(d)` returns `out[len(out) - d]` and fails iff `d > len(out)`. -/
def Obligations.ReadBackReadsTheOutput : Prop :=
  ∀ (out : List Byte) (w : SlidingWindow) (d : Nat), HistoryAgrees out w → 1 ≤ d → d ≤ 4096 →
    (d ≤ out.length → ∃ b, out[out.length - d]? = some b ∧ readBack d w = .ok b) ∧
    (out.length < d → readBack d w = .error .distanceTooFar)

/-! ## HDR (43_decoder.md R161, R162) -/

/-- R162: a legal header stores the mode bytes and builds the tables, the literal table only in mode 1; nothing else
changes. HDR completes. -/
def Obligations.LegalHeaderBuildsTables : Prop :=
  ∀ (l k : BitVec 8) (s : State), l.toNat ≤ 1 → 4 ≤ k.toNat → k.toNat ≤ 6 →
    exec (.hdr l k) s = .next { s with
      lit := l.setWidth 1
      dictBits := k
      litTable := if l.toNat = 1 then some (buildTable (expand tableParams.litlen)) else s.litTable
      lenTable := some (buildTable (expand tableParams.lenlen))
      distTable := some (buildTable (expand tableParams.distlen))
      phase := .decodeLoop }

/-- R201: any other header byte raises `InvalidHeader`. HDR traps. -/
def Obligations.IllegalHeaderRaises : Prop :=
  ∀ (l k : BitVec 8) (s : State), ¬(l.toNat ≤ 1 ∧ 4 ≤ k.toNat ∧ k.toNat ≤ 6) →
    exec (.hdr l k) s = .next (raise .invalidHeader s) ∧ FailsWith (exec (.hdr l k) s) .invalidHeader

/-- R161: the header step on every input, with the order of its reads and checks. -/
def Obligations.HeaderStepOnEveryInput : Prop :=
  FailsWith (step (State.start [])) .unexpectedEndOfInput ∧
  (∀ (v0 : Byte) (rest : List Byte), 1 < v0.toNat →
    FailsWith (step (State.start (v0 :: rest))) .invalidHeader) ∧
  (∀ v0 : Byte, v0.toNat ≤ 1 → FailsWith (step (State.start [v0])) .unexpectedEndOfInput) ∧
  (∀ (v0 v1 : Byte) (rest : List Byte), v0.toNat ≤ 1 → v1.toNat < 4 ∨ 6 < v1.toNat →
    FailsWith (step (State.start (v0 :: v1 :: rest))) .invalidHeader) ∧
  (∀ (v0 v1 : Byte) (rest : List Byte), v0.toNat ≤ 1 → 4 ≤ v1.toNat → v1.toNat ≤ 6 →
    ∃ t, step (State.start (v0 :: v1 :: rest)) = .next t ∧
      t.phase = .decodeLoop ∧ t.lit.toNat = v0.toNat ∧ t.dictBits = v1 ∧ t.bitpos = 16 ∧
      t.out = [] ∧ t.sw = SlidingWindow.init ∧ t.err = none ∧
      t.litTable = (if v0.toNat = 1 then some (buildLit tableParams) else none) ∧
      t.lenTable = some (buildLen tableParams) ∧ t.distTable = some (buildDist tableParams))

/-! ## Literals (43_decoder.md R164, R165) -/

/-- R164, the effect: LIT.RAW appends its byte to the output and pushes it; every other register, and every window cell
but the one at `pos`, is as before. LIT.RAW completes. -/
def Obligations.RawLiteralEmitsItsByte : Prop :=
  ∀ (b : BitVec 8) (s : State),
    exec (.litRaw b) s = .next { s with out := s.out ++ [b], sw := push b s.sw } ∧
    Memory.read (push b s.sw).win s.sw.pos.val = some b ∧
    ∀ a, a ≠ s.sw.pos.val → Memory.read (push b s.sw).win a = Memory.read s.sw.win a

/-- R165, the effect: each of the 256 rows LIT.HUF_0x00 to LIT.HUF_0xFF (the constructors `litHuf00` to `litHufFF`, those
whose shape is `litHuf b`) emits the byte it names, with the frame of LIT.RAW; and there is one such row for every
byte. Each completes. -/
def Obligations.HuffmanLiteralEmitsItsByte : Prop :=
  (∀ (i : Instr) (b : BitVec 8) (s : State), i.form = .litHuf b →
    exec i s = .next { s with out := s.out ++ [b], sw := push b s.sw } ∧
    Memory.read (push b s.sw).win s.sw.pos.val = some b ∧
    ∀ a, a ≠ s.sw.pos.val → Memory.read (push b s.sw).win a = Memory.read s.sw.win a) ∧
  ∀ b : BitVec 8, (litHufRow b).form = .litHuf b

/-- R164: the whole unit LIT.RAW at the machine's level, its flag and 8 raw bits at any bit position, and its failure
when they are not all there. -/
def Obligations.RawLiteralUnitStep : Prop :=
  ∀ s : State, s.phase = .decodeLoop → s.matchLen = none → s.lit ≠ 1 → BitReader.Agrees s.inp s.br →
    (∀ b : Byte, StreamHas s.inp s.bitpos (false :: rawBits 8 b.toNat) →
      ∃ r, r.bitpos = s.bitpos + 9 ∧ BitReader.Agrees s.inp r ∧
        step s = .next { s with br := r, out := s.out ++ [b], sw := push b s.sw }) ∧
    (StreamHas s.inp s.bitpos [false] → 8 * s.inp.length < s.bitpos + 9 →
      FailsWith (step s) .unexpectedEndOfInput) ∧
    (8 * s.inp.length = s.bitpos → FailsWith (step s) .unexpectedEndOfInput)

/-- R165 with the default tables (log entry 4): the whole unit LIT.HUF at the machine's level. -/
def Obligations.HuffmanLiteralUnitStep : Prop :=
  ∀ s : State, s.phase = .decodeLoop → s.matchLen = none → s.lit = 1 → HeaderDone s →
    BitReader.Agrees s.inp s.br →
    ∀ (b : Byte) (c : List Bool), codeBits (buildLit tableParams) b.toNat = some c →
      StreamHas s.inp s.bitpos (false :: c) →
      ∃ r, r.bitpos = s.bitpos + 1 + c.length ∧ BitReader.Agrees s.inp r ∧
        step s = .next { s with br := r, out := s.out ++ [b], sw := push b s.sw }

/-! ## Match lengths and END (43_decoder.md R166, R167) -/

/-- R77: the table, and that every length 2 to 519 has exactly one length symbol and extra value, and no other length
has any. -/
def Obligations.EveryLengthHasOneEncoding : Prop :=
  (∀ (sym : Fin 16) (xlen : Nat), lengthOf sym xlen =
    [3, 2, 4, 5, 6, 7, 8, 9, 10, 12, 16, 24, 40, 72, 136, 264].getD sym.val 0 + xlen) ∧
  (∀ sym : Fin 16, lengthExtra sym = [0, 0, 0, 0, 0, 0, 0, 0, 1, 2, 3, 4, 5, 6, 7, 8].getD sym.val 0) ∧
  (∀ n, 2 ≤ n → n ≤ 519 → ∃ sym xlen, xlen < 2 ^ lengthExtra sym ∧ lengthOf sym xlen = n ∧
    ∀ sym' xlen', xlen' < 2 ^ lengthExtra sym' → lengthOf sym' xlen' = n → sym' = sym ∧ xlen' = xlen) ∧
  (∀ sym xlen, xlen < 2 ^ lengthExtra sym → 2 ≤ lengthOf sym xlen ∧ lengthOf sym xlen ≤ 519)

/-- R166: each of the 16 rows MATCH.L0 to MATCH.L15 assembles its length; 519 ends the stream, and any other length waits
for the distance part (the pending length is the model's own field, log entry 1). Nothing else changes, no window cell
and no byte of the output. Each completes. -/
def Obligations.MatchLengthIsAssembled : Prop :=
  (∀ (i : Instr) (sym : Fin 16) (xlen : Nat) (s : State), i.form = .matchLength sym xlen →
    exec i s = if base.getD sym.val 0 + xlen = 519 then .next { s with phase := .done }
      else .next { s with matchLen := some (base.getD sym.val 0 + xlen) }) ∧
  ∀ sym : Fin 16, ∀ xlen, xlen < 2 ^ extra.getD sym.val 0 → (matchRow sym xlen).form = .matchLength sym xlen

/-- R167: END makes the phase Done and changes nothing else, the outcome is the output; 519 is length symbol 15 with
extra bits 255 and nothing else; no step but one that reads END reaches Done. END completes. -/
def Obligations.EndDeliversTheOutput : Prop :=
  (∀ s : State, exec .endStream s = .next { s with phase := .done } ∧
    ∀ t, exec .endStream s = .next t → t.outcome = some (.ok s.out)) ∧
  (∀ sym xlen, xlen < 2 ^ lengthExtra sym → (lengthOf sym xlen = 519 ↔ sym = 15 ∧ xlen = 255)) ∧
  ∀ s t : State, step s = .next t → t.phase = .done →
    ∃ r, fetch s = .ok (.endStream, r) ∧ t = { s with br := r, phase := .done }

/-! ## Match distances (43_decoder.md R168 to R170) -/

/-- R78: the extra-bit count, the assembly, the range, and the one encoding of every distance in it. -/
def Obligations.EveryDistanceHasOneEncoding : Prop :=
  (∀ (n : Nat) (dictBits : Byte), distanceExtra n dictBits = if n = 2 then 2 else dictBits.toNat) ∧
  ∀ k, k = 2 ∨ k = 4 ∨ k = 5 ∨ k = 6 →
    (∀ (dsym : Fin 64) (xdist : Nat), xdist < 2 ^ k →
      distanceOf dsym k xdist = dsym.val * 2 ^ k + xdist + 1 ∧
      1 ≤ distanceOf dsym k xdist ∧ distanceOf dsym k xdist ≤ 64 * 2 ^ k) ∧
    (∀ d, 1 ≤ d → d ≤ 64 * 2 ^ k →
      ∃ dsym : Fin 64, ∃ xdist, xdist < 2 ^ k ∧ distanceOf dsym k xdist = d ∧
        dsym.val = (d - 1) >>> k ∧ xdist = (d - 1) &&& (2 ^ k - 1) ∧
        ∀ (dsym' : Fin 64) (xdist' : Nat), xdist' < 2 ^ k → distanceOf dsym' k xdist' = d →
          dsym' = dsym ∧ xdist' = xdist)

/-- R168 and R170: each of the 64 rows DIST.D0 to DIST.D63 (those of shape `matchDist`), where window and output agree
and the distance is within the history, appends `length` bytes; the `j`-th is `out0[len(out0) - distance + (j mod
distance)]` of the output before. Window and output agree again, the cells not written read as before, and no other
register changes. Each completes. -/
def Obligations.MatchCopiesFromHistory : Prop :=
  ∀ (i : Instr) (dsym : Fin 64) (xdist n : Nat) (s : State), i.form = .matchDist dsym xdist →
    s.matchLen = some n → HistoryAgrees s.out s.sw →
    distanceOf dsym (distanceExtra n s.dictBits) xdist ≤ min s.out.length 4096 →
    ∃ bs sw, exec i s = .next { s with matchLen := none, out := s.out ++ bs, sw := sw } ∧
      bs.length = n ∧
      (∀ j, j < n → bs[j]? = s.out[s.out.length - distanceOf dsym (distanceExtra n s.dictBits) xdist +
        j % distanceOf dsym (distanceExtra n s.dictBits) xdist]?) ∧
      HistoryAgrees (s.out ++ bs) sw ∧
      ∀ a, (∀ j, j < n → a ≠ (s.sw.pos.val + j) % 4096) → Memory.read sw.win a = Memory.read s.sw.win a

/-- R169: before the first wrap, a distance above `pos` raises `CorruptStream`, whatever the length. A DIST row traps. -/
def Obligations.DistanceTooFarRaises : Prop :=
  ∀ (i : Instr) (dsym : Fin 64) (xdist n : Nat) (s : State), i.form = .matchDist dsym xdist →
    s.matchLen = some n → s.sw.wrapped = false →
    s.sw.pos.val < distanceOf dsym (distanceExtra n s.dictBits) xdist →
    exec i s = .next (raise .corruptStream s) ∧ FailsWith (exec i s) .corruptStream

/-- R169: "Checking once is the same as checking at every copied byte": a copy whose distance passes the check never
meets it again. -/
def Obligations.OneValidationIsEnough : Prop :=
  ∀ (d n : Nat) (s t : State), 1 ≤ d → d ≤ 4096 → distanceTooFar s.sw d = false →
    copyBytes d n s = .next t →
    t.phase = s.phase ∧ t.err = s.err ∧ t.out.length = s.out.length + n

/-- Log entry 12, the model's choice: a DIST row outside a match, which the table's condition excludes, is refused. -/
def Obligations.DistanceOutsideMatchRefused : Prop :=
  ∀ (i : Instr) (dsym : Fin 64) (xdist : Nat) (s : State), i.form = .matchDist dsym xdist →
    s.matchLen = none → exec i s = .refused .noMatchInProgress

/-! ## Failures and the end (60_exceptions.md, 43_decoder.md R171) -/

/-- R206: failure entry writes `err` and `phase`, and the outcome is the failure. The input is untouched (R34). -/
def Obligations.FailureEntryRecordsTheCode : Prop :=
  ∀ (e : DecodeError) (s : State),
    (raise e s).phase = .failed ∧ (raise e s).err = some e ∧ (raise e s).inp = s.inp ∧
    (raise e s).outcome = some (.error e) ∧
    DecodeError.invalidHeader.code = 1 ∧ DecodeError.invalidHuffmanCode.code = 2 ∧
    DecodeError.unexpectedEndOfInput.code = 3 ∧ DecodeError.corruptStream.code = 4 ∧
    (raise e s).errCode = e.code

/-- R171 and R207, with the fault that log entry 7 chooses: Done and Failed are terminal, no step leaves them. -/
def Obligations.DoneAndFailedAreTerminal : Prop :=
  ∀ s : State,
    (s.phase = .done → step s = .fault .haltedDone ∧ s.outcome = some (.ok s.out)) ∧
    (s.phase = .failed → step s = .fault .haltedFailed ∧ s.outcome = s.err.map .error)

/-- R200, the column "raised by": which failures a step can take in which phase, over all states. -/
def Obligations.FailuresComeFromTheirUnits : Prop :=
  ∀ s t : State, step s = .next t → t.phase = .failed →
    ∃ e, t.err = some e ∧
      (e = .invalidHeader → s.phase = .readHeader) ∧
      (e = .invalidHuffmanCode → s.phase = .decodeLoop) ∧
      (e = .corruptStream → s.phase = .decodeLoop ∧ s.matchLen ≠ none)

/-- R126 and R202 with the default tables (log entry 4): `InvalidHuffmanCode` is unreachable. -/
def Obligations.InvalidHuffmanCodeUnreachable : Prop :=
  ∀ s t : State, s.Inv → step s = .next t → t.err ≠ some .invalidHuffmanCode

/-! ## The step -/

/-- R160 and R163: a step of a running decoder runs the instruction that its bits decode to, on the state with the reader
moved past them; a failure of the reading is taken. -/
def Obligations.StepRunsTheDecodedInstruction : Prop :=
  ∀ s : State, s.running = true →
    (∀ i r, decode s.context s.inp s.br = .ok (i, r) → step s = exec i { s with br := r }) ∧
    (∀ e, decode s.context s.inp s.br = .error (.raise e) → step s = .next (raise e s)) ∧
    (s.phase = .readHeader → s.context = .header) ∧
    (s.phase = .decodeLoop → s.matchLen = none → s.context = .unit s.lit s.litTable s.lenTable) ∧
    (∀ n, s.phase = .decodeLoop → s.matchLen = some n →
      s.context = .distance (distanceExtra n s.dictBits) s.distTable)

/-- R160: which phase follows which, over all states. -/
def Obligations.PhasesFollowTheStateMachine : Prop :=
  ∀ s t : State, step s = .next t →
    (s.phase = .readHeader ∧ (t.phase = .decodeLoop ∨ t.phase = .failed)) ∨
    (s.phase = .decodeLoop ∧ (t.phase = .decodeLoop ∨ t.phase = .done ∨ t.phase = .failed))

/-- R160: a whole unit, taken as one step, ends at a unit boundary, and never stops by a fault or a refusal. -/
def Obligations.UnitsAreAtomic : Prop :=
  ∀ s : State, s.Inv → s.running = true → s.matchLen = none →
    ∃ t, unitStep s = .next t ∧ t.matchLen = none ∧ t.Inv

/-- R62 and R63: no step writes the input. -/
def Obligations.InputIsNeverWritten : Prop :=
  ∀ s t : State, step s = .next t → t.inp = s.inp

/-- R27 and R129: after the header step nothing rewrites the mode bytes or the tables, short of a failure. -/
def Obligations.HeaderStateIsWrittenOnce : Prop :=
  ∀ s t : State, step s = .next t → s.phase = .decodeLoop → t.phase ≠ .failed →
    t.lit = s.lit ∧ t.dictBits = s.dictBits ∧ t.litTable = s.litTable ∧ t.lenTable = s.lenTable ∧
    t.distTable = s.distTable

/-- R26 and R29: short of a failure, the output only grows at its end and `wrapped` is never cleared. -/
def Obligations.OutputOnlyGrows : Prop :=
  ∀ s t : State, step s = .next t → t.phase ≠ .failed →
    (∃ bs, t.out = s.out ++ bs) ∧ (s.sw.wrapped = true → t.sw.wrapped = true)

/-- R22 and R174: every step of a running decoder that does not fail moves the bit position forward, within the
input. -/
def Obligations.BitPositionMovesForward : Prop :=
  ∀ s t : State, s.Inv → step s = .next t → t.phase ≠ .failed →
    s.bitpos < t.bitpos ∧ t.bitpos ≤ 8 * t.inp.length

/-! ## Invariant, totality, the whole decode -/

/-- The invariant holds after reset, whatever the input. -/
def Obligations.InvariantHoldsAfterReset : Prop :=
  ∀ inp : List Byte, (State.start inp).Inv ∧ State.reset.Inv

/-- R22, R27 and R32: every step keeps the invariant: the reader agrees with the stream, the window with the output, the
tables and the mode bytes stay legal. -/
def Obligations.StepKeepsInvariant : Prop :=
  ∀ s t : State, s.Inv → step s = .next t → t.Inv

/-- R174: "There is no hang and no stuck state": a running decoder that meets the invariant always has a next state. -/
def Obligations.RunningDecoderAlwaysSteps : Prop :=
  ∀ s : State, s.Inv → s.running = true → ∃ t, step s = .next t

/-- R174: every decode ends in Done or Failed, within as many steps as the input has bits and one more. -/
def Obligations.EveryDecodeEnds : Prop :=
  ∀ inp : List Byte, ∃ k t, k ≤ 8 * inp.length + 1 ∧ Sys2Proof.core.run k (State.start inp) = .next t ∧
    (t.phase = .done ∨ t.phase = .failed)

/-- R175 and R14: the machine, run from reset on any input, ends with the outcome of the reference decode, which knows no
reader registers and no window. -/
def Obligations.MachineComputesTheReferenceDecode : Prop :=
  ∀ inp : List Byte, ∃ k t, Sys2Proof.core.run k (State.start inp) = .next t ∧
    t.outcome = some (Reference.decode tableParams inp)

/-- R171: a decode that ends in Done depends on the bits up to its end alone: any other input that begins with the same
bits gives the same output in the same steps. -/
def Obligations.BitsAfterEndHaveNoEffect : Prop :=
  ∀ (inp inp' : List Byte) (k : Nat) (t : State), Sys2Proof.core.run k (State.start inp) = .next t →
    t.phase = .done → (∀ j, j < t.bitpos → streamBit inp' j = streamBit inp j) → t.bitpos ≤ 8 * inp'.length →
    ∃ t', Sys2Proof.core.run k (State.start inp') = .next t' ∧ t'.phase = .done ∧ t'.out = t.out ∧
      t'.bitpos = t.bitpos

/-! ## Encoding (30_encoding.md) -/

/-- R71 to R79: every well-formed instruction has an encoding where it can stand, and the decoder reads it back from any
bit position, every operand with it. The tables are the default ones (log entry 4). -/
def Obligations.DecodeInvertsEncode : Prop :=
  ∀ (ctx : Context) (i : Instr), MachineContext ctx → i.wellFormed = true → ctx.fits i.form = true →
    ∃ c, encode ctx i = some c ∧
      ∀ (inp : List Byte) (r : BitReader), BitReader.Agrees inp r → StreamHas inp r.bitpos c →
        ∃ r', decode ctx inp r = .ok (i, r') ∧ r'.bitpos = r.bitpos + c.length ∧ BitReader.Agrees inp r'

/-- R86: no encoding is the beginning of another one, so a bit string decodes to at most one unit sequence. -/
def Obligations.EncodingsArePrefixFree : Prop :=
  ∀ (ctx : Context) (i j : Instr) (c c' : List Bool), MachineContext ctx →
    i.wellFormed = true → ctx.fits i.form = true → j.wellFormed = true → ctx.fits j.form = true →
    encode ctx i = some c → encode ctx j = some c' → c <+: c' → i = j

/-- R71, R73 to R76, R81 to R83: some instructions with the patterns the spec writes for them, in stream order. -/
def Obligations.EncodingsAreTheListedPatterns : Prop :=
  encode .header (.hdr 1 5) =
    some [true, false, false, false, false, false, false, false,
      true, false, true, false, false, false, false, false] ∧
  encode (.unit 0 none (some defaultLenTable)) (.litRaw 0x41) =
    some [false, true, false, false, false, false, false, true, false] ∧
  encode (.unit 1 (some defaultLitTable) (some defaultLenTable)) .litHuf41 =
    some [false, true, false, false, false, true, true] ∧
  encode (.unit 1 (some defaultLitTable) (some defaultLenTable)) (.matchL8 1) =
    some [true, false, false, true, false, false, true] ∧
  encode (.unit 0 none (some defaultLenTable)) .endStream =
    some [true, false, false, false, false, false, false, false,
      true, true, true, true, true, true, true, true] ∧
  encode (.distance 4 (some defaultDistTable)) (.distD3 15) =
    some [true, false, false, true, true, true, true, true, true]

/-- R71, R73 to R76, R81 to R83: the same of words as the opcode table numbers them (first bit read most significant):
the decoder reads from each the instruction it stands for. -/
def Obligations.TableWordsDecodeToTheirRows : Prop :=
  decodeTableWord 16 0x8020 = some (.matchL15 0x04) ∧
  decodeTableWord 16 0x00A0 = some (.hdr 0 5) ∧
  decodeTableWord 16 0x80FF = some .endStream ∧
  decodeTableWord 8 0x23 = some .litHuf0A ∧
  decodeTableWord 8 0x8D = some (.matchL9 2) ∧
  decodeTableWord 8 0x07 = some (.distD56 0)
end

