-- ==== Sys2Proof/Laws/Forms.lean ====
section
/-!
SUPPORT. Instructions by shape: the rows of a shape, and what `exec` does with each shape. A proof over the instructions
splits into the five shapes, not into 339 constructors.
-/
namespace Sys2Proof.Laws

open Sys2Proof.Machine

/-- A MATCH row with extra bits holds its own field. -/
theorem matchRow_toNat {n : Nat} (sym : Fin 16) (x : BitVec n) {row : BitVec n → Instr}
    (h : matchRow sym x.toNat = row (BitVec.ofNat n x.toNat)) : matchRow sym x.toNat = row x := by
  simpa using h

end Sys2Proof.Laws

namespace Sys2Proof.Machine

/-- What an instruction of a shape does. -/
def execForm (f : Form) (s : State) : Host.Outcome State Fault Refusal :=
  match f with
  | .hdr lit dictBits => takeHeader tableParams lit dictBits s
  | .litRaw b => .next (emit b s)
  | .litHuf b => .next (emit b s)
  | .matchLength sym xlen => .next (takeLength (lengthOf sym xlen) s)
  | .endStream => .next (finish s)
  | .matchDist dsym xdist => takeDistance dsym xdist s

/-- Every row's meaning is the one of its shape. -/
theorem exec_eq_execForm (i : Instr) (s : State) : exec i s = execForm i.form s := by
  cases i <;> rfl

end Sys2Proof.Machine
end

