-- ==== Sys2Proof/Laws/State.lean ====
section
/-!
SUPPORT. One lemma for each field and each update of the state, so that no proof unfolds a record update. What a failure
leaves undefined (60_exceptions.md R206) has no lemma: nothing is known of it.
-/
namespace Sys2Proof.Machine

@[simp] theorem advance_inp (s : State) (r : BitReader) : (s.advance r).inp = s.inp := rfl
@[simp] theorem advance_br (s : State) (r : BitReader) : (s.advance r).br = r := rfl
@[simp] theorem advance_litTable (s : State) (r : BitReader) : (s.advance r).litTable = s.litTable := rfl
@[simp] theorem advance_lenTable (s : State) (r : BitReader) : (s.advance r).lenTable = s.lenTable := rfl
@[simp] theorem advance_distTable (s : State) (r : BitReader) : (s.advance r).distTable = s.distTable := rfl
@[simp] theorem advance_sw (s : State) (r : BitReader) : (s.advance r).sw = s.sw := rfl
@[simp] theorem advance_lit (s : State) (r : BitReader) : (s.advance r).lit = s.lit := rfl
@[simp] theorem advance_dictBits (s : State) (r : BitReader) : (s.advance r).dictBits = s.dictBits := rfl
@[simp] theorem advance_phase (s : State) (r : BitReader) : (s.advance r).phase = s.phase := rfl
@[simp] theorem advance_err (s : State) (r : BitReader) : (s.advance r).err = s.err := rfl
@[simp] theorem advance_out (s : State) (r : BitReader) : (s.advance r).out = s.out := rfl
@[simp] theorem advance_matchLen (s : State) (r : BitReader) : (s.advance r).matchLen = s.matchLen := rfl
@[simp] theorem advance_draws (s : State) (r : BitReader) : (s.advance r).draws = s.draws := rfl

@[simp] theorem emit_inp (b : Byte) (s : State) : (emit b s).inp = s.inp := rfl
@[simp] theorem emit_br (b : Byte) (s : State) : (emit b s).br = s.br := rfl
@[simp] theorem emit_litTable (b : Byte) (s : State) : (emit b s).litTable = s.litTable := rfl
@[simp] theorem emit_lenTable (b : Byte) (s : State) : (emit b s).lenTable = s.lenTable := rfl
@[simp] theorem emit_distTable (b : Byte) (s : State) : (emit b s).distTable = s.distTable := rfl
@[simp] theorem emit_sw (b : Byte) (s : State) : (emit b s).sw = push b s.sw := rfl
@[simp] theorem emit_lit (b : Byte) (s : State) : (emit b s).lit = s.lit := rfl
@[simp] theorem emit_dictBits (b : Byte) (s : State) : (emit b s).dictBits = s.dictBits := rfl
@[simp] theorem emit_phase (b : Byte) (s : State) : (emit b s).phase = s.phase := rfl
@[simp] theorem emit_err (b : Byte) (s : State) : (emit b s).err = s.err := rfl
@[simp] theorem emit_out (b : Byte) (s : State) : (emit b s).out = s.out ++ [b] := rfl
@[simp] theorem emit_matchLen (b : Byte) (s : State) : (emit b s).matchLen = s.matchLen := rfl
@[simp] theorem emit_draws (b : Byte) (s : State) : (emit b s).draws = s.draws := rfl

@[simp] theorem finish_inp (s : State) : (finish s).inp = s.inp := rfl
@[simp] theorem finish_br (s : State) : (finish s).br = s.br := rfl
@[simp] theorem finish_litTable (s : State) : (finish s).litTable = s.litTable := rfl
@[simp] theorem finish_lenTable (s : State) : (finish s).lenTable = s.lenTable := rfl
@[simp] theorem finish_distTable (s : State) : (finish s).distTable = s.distTable := rfl
@[simp] theorem finish_sw (s : State) : (finish s).sw = s.sw := rfl
@[simp] theorem finish_lit (s : State) : (finish s).lit = s.lit := rfl
@[simp] theorem finish_dictBits (s : State) : (finish s).dictBits = s.dictBits := rfl
@[simp] theorem finish_phase (s : State) : (finish s).phase = .done := rfl
@[simp] theorem finish_err (s : State) : (finish s).err = s.err := rfl
@[simp] theorem finish_out (s : State) : (finish s).out = s.out := rfl
@[simp] theorem finish_matchLen (s : State) : (finish s).matchLen = s.matchLen := rfl
@[simp] theorem finish_draws (s : State) : (finish s).draws = s.draws := rfl

@[simp] theorem loadHeader_inp (P : Config.TableParams) (l k : Byte) (s : State) : (loadHeader P l k s).inp = s.inp := rfl
@[simp] theorem loadHeader_br (P : Config.TableParams) (l k : Byte) (s : State) : (loadHeader P l k s).br = s.br := rfl
@[simp] theorem loadHeader_litTable (P : Config.TableParams) (l k : Byte) (s : State) : (loadHeader P l k s).litTable = if l = 1 then some (buildLit P) else s.litTable := rfl
@[simp] theorem loadHeader_lenTable (P : Config.TableParams) (l k : Byte) (s : State) : (loadHeader P l k s).lenTable = some (buildLen P) := rfl
@[simp] theorem loadHeader_distTable (P : Config.TableParams) (l k : Byte) (s : State) : (loadHeader P l k s).distTable = some (buildDist P) := rfl
@[simp] theorem loadHeader_sw (P : Config.TableParams) (l k : Byte) (s : State) : (loadHeader P l k s).sw = s.sw := rfl
@[simp] theorem loadHeader_lit (P : Config.TableParams) (l k : Byte) (s : State) : (loadHeader P l k s).lit = l.setWidth 1 := rfl
@[simp] theorem loadHeader_dictBits (P : Config.TableParams) (l k : Byte) (s : State) : (loadHeader P l k s).dictBits = k := rfl
@[simp] theorem loadHeader_phase (P : Config.TableParams) (l k : Byte) (s : State) : (loadHeader P l k s).phase = .decodeLoop := rfl
@[simp] theorem loadHeader_err (P : Config.TableParams) (l k : Byte) (s : State) : (loadHeader P l k s).err = s.err := rfl
@[simp] theorem loadHeader_out (P : Config.TableParams) (l k : Byte) (s : State) : (loadHeader P l k s).out = s.out := rfl
@[simp] theorem loadHeader_matchLen (P : Config.TableParams) (l k : Byte) (s : State) : (loadHeader P l k s).matchLen = s.matchLen := rfl
@[simp] theorem loadHeader_draws (P : Config.TableParams) (l k : Byte) (s : State) : (loadHeader P l k s).draws = s.draws := rfl

@[simp] theorem raise_inp (e : DecodeError) (s : State) : (raise e s).inp = s.inp := rfl
@[simp] theorem raise_phase (e : DecodeError) (s : State) : (raise e s).phase = .failed := rfl
@[simp] theorem raise_err (e : DecodeError) (s : State) : (raise e s).err = some e := rfl
@[simp] theorem raise_matchLen (e : DecodeError) (s : State) : (raise e s).matchLen = none := rfl
@[simp] theorem raise_draws (e : DecodeError) (s : State) : (raise e s).draws = s.draws + 1 := rfl

@[simp] theorem start_inp (inp : List Byte) : (State.start inp).inp = inp := rfl
@[simp] theorem start_br (inp : List Byte) : (State.start inp).br = BitReader.init := rfl
@[simp] theorem start_litTable (inp : List Byte) : (State.start inp).litTable = none := rfl
@[simp] theorem start_lenTable (inp : List Byte) : (State.start inp).lenTable = none := rfl
@[simp] theorem start_distTable (inp : List Byte) : (State.start inp).distTable = none := rfl
@[simp] theorem start_sw (inp : List Byte) : (State.start inp).sw = SlidingWindow.init := rfl
@[simp] theorem start_lit (inp : List Byte) : (State.start inp).lit = 0 := rfl
@[simp] theorem start_dictBits (inp : List Byte) : (State.start inp).dictBits = 0 := rfl
@[simp] theorem start_phase (inp : List Byte) : (State.start inp).phase = .readHeader := rfl
@[simp] theorem start_err (inp : List Byte) : (State.start inp).err = none := rfl
@[simp] theorem start_out (inp : List Byte) : (State.start inp).out = [] := rfl
@[simp] theorem start_matchLen (inp : List Byte) : (State.start inp).matchLen = none := rfl
@[simp] theorem start_draws (inp : List Byte) : (State.start inp).draws = 0 := rfl

@[simp] theorem placeBits_br (s : State) (bits : List Bool) : (s.placeBits bits).br = { s.br with acc := natOfBits (bits.take s.br.cnt) } := rfl
@[simp] theorem placeBits_litTable (s : State) (bits : List Bool) : (s.placeBits bits).litTable = s.litTable := rfl
@[simp] theorem placeBits_lenTable (s : State) (bits : List Bool) : (s.placeBits bits).lenTable = s.lenTable := rfl
@[simp] theorem placeBits_distTable (s : State) (bits : List Bool) : (s.placeBits bits).distTable = s.distTable := rfl
@[simp] theorem placeBits_sw (s : State) (bits : List Bool) : (s.placeBits bits).sw = s.sw := rfl
@[simp] theorem placeBits_lit (s : State) (bits : List Bool) : (s.placeBits bits).lit = s.lit := rfl
@[simp] theorem placeBits_dictBits (s : State) (bits : List Bool) : (s.placeBits bits).dictBits = s.dictBits := rfl
@[simp] theorem placeBits_phase (s : State) (bits : List Bool) : (s.placeBits bits).phase = s.phase := rfl
@[simp] theorem placeBits_err (s : State) (bits : List Bool) : (s.placeBits bits).err = s.err := rfl
@[simp] theorem placeBits_out (s : State) (bits : List Bool) : (s.placeBits bits).out = s.out := rfl
@[simp] theorem placeBits_matchLen (s : State) (bits : List Bool) : (s.placeBits bits).matchLen = s.matchLen := rfl
@[simp] theorem placeBits_draws (s : State) (bits : List Bool) : (s.placeBits bits).draws = s.draws := rfl

/-! `takeLength` changes the phase or the pending length, nothing else. -/

@[simp] theorem takeLength_inp (n : Nat) (s : State) : (takeLength n s).inp = s.inp := by
  unfold takeLength; split <;> rfl
@[simp] theorem takeLength_br (n : Nat) (s : State) : (takeLength n s).br = s.br := by
  unfold takeLength; split <;> rfl
@[simp] theorem takeLength_litTable (n : Nat) (s : State) : (takeLength n s).litTable = s.litTable := by
  unfold takeLength; split <;> rfl
@[simp] theorem takeLength_lenTable (n : Nat) (s : State) : (takeLength n s).lenTable = s.lenTable := by
  unfold takeLength; split <;> rfl
@[simp] theorem takeLength_distTable (n : Nat) (s : State) : (takeLength n s).distTable = s.distTable := by
  unfold takeLength; split <;> rfl
@[simp] theorem takeLength_sw (n : Nat) (s : State) : (takeLength n s).sw = s.sw := by
  unfold takeLength; split <;> rfl
@[simp] theorem takeLength_lit (n : Nat) (s : State) : (takeLength n s).lit = s.lit := by
  unfold takeLength; split <;> rfl
@[simp] theorem takeLength_dictBits (n : Nat) (s : State) : (takeLength n s).dictBits = s.dictBits := by
  unfold takeLength; split <;> rfl
@[simp] theorem takeLength_err (n : Nat) (s : State) : (takeLength n s).err = s.err := by
  unfold takeLength; split <;> rfl
@[simp] theorem takeLength_out (n : Nat) (s : State) : (takeLength n s).out = s.out := by
  unfold takeLength; split <;> rfl
@[simp] theorem takeLength_draws (n : Nat) (s : State) : (takeLength n s).draws = s.draws := by
  unfold takeLength; split <;> rfl

theorem takeLength_end (s : State) : takeLength endLength s = finish s := by simp [takeLength]

theorem takeLength_copy {n : Nat} (h : n ≠ endLength) (s : State) :
    takeLength n s = { s with matchLen := some n } := by simp [takeLength, h]

@[simp] theorem hostReset_eq_start (s : State) : s.hostReset = State.start s.inp := rfl

theorem raise_code (e : DecodeError) (s : State) : (raise e s).errCode = e.code := rfl

end Sys2Proof.Machine
end

