-- ==== Sys2Proof/Laws/Tables.lean ====
section
/-!
SUPPORT. The tables that the header step builds from the default specifications are the ones written out in
41_huffman.md R128, and the default specifications are well formed (00_scope.md R8).
-/
namespace Sys2Proof.Machine

set_option maxRecDepth 20000 in
theorem buildLit_default : buildLit tableParams = defaultLitTable := by decide

set_option maxRecDepth 20000 in
theorem buildLen_default : buildLen tableParams = defaultLenTable := by decide

set_option maxRecDepth 20000 in
theorem buildDist_default : buildDist tableParams = defaultDistTable := by decide

set_option maxRecDepth 20000 in
theorem wfParams_default : wfParams tableParams = true := by decide

end Sys2Proof.Machine
end

