-- ==== Sys2Proof/Laws/Window.lean ====
section
/-!
SUPPORT. The window's memory: what a write does to every read, and that every operation keeps the one form
(`Memory.wf`).
-/
namespace Sys2Proof.Machine

theorem read_write_same (m : Memory) (a : Nat) (b : Byte) : Memory.read (Memory.write m a b) a = some b := by
  induction m with
  | nil => simp [Memory.write, Memory.read]
  | cons p m ih =>
    obtain ⟨x, c⟩ := p
    by_cases h : a < x
    · simp [Memory.write, Memory.read, h]
    · by_cases h' : a = x
      · simp [Memory.write, Memory.read, h']
      · simp [Memory.write, Memory.read, h, h', Ne.symm h', ih]

theorem read_write_other {m : Memory} {a a' : Nat} (b : Byte) (h : a' ≠ a) :
    Memory.read (Memory.write m a b) a' = Memory.read m a' := by
  induction m with
  | nil => simp [Memory.write, Memory.read, Ne.symm h]
  | cons p m ih =>
    obtain ⟨x, c⟩ := p
    by_cases h1 : a < x
    · simp [Memory.write, Memory.read, h1, Ne.symm h]
    · by_cases h2 : a = x
      · subst h2; simp [Memory.write, Memory.read, Ne.symm h]
      · simp [Memory.write, Memory.read, h1, h2, ih]

theorem rising_write {m : Memory} {lo a : Nat} (b : Byte) (hlo : lo ≤ a) (ha : a < 4096)
    (h : Memory.rising lo m = true) : Memory.rising lo (Memory.write m a b) = true := by
  induction m generalizing lo with
  | nil => simp [Memory.write, Memory.rising, hlo, ha]
  | cons p m ih =>
    obtain ⟨x, c⟩ := p
    simp only [Memory.rising, Bool.and_eq_true, decide_eq_true_eq] at h
    obtain ⟨⟨hx, hx'⟩, hm⟩ := h
    by_cases h1 : a < x
    · simp only [Memory.write, h1, if_true, Memory.rising, Bool.and_eq_true, decide_eq_true_eq]
      exact ⟨⟨hlo, ha⟩, ⟨by omega, hx'⟩, hm⟩
    · by_cases h2 : a = x
      · subst h2; simp [Memory.write, Memory.rising, hlo, ha, hm]
      · simp only [Memory.write, h1, h2, if_false, Memory.rising, Bool.and_eq_true, decide_eq_true_eq]
        exact ⟨⟨hx, hx'⟩, ih (by omega) hm⟩

/-- A write keeps the one form. -/
theorem write_keeps_wf {m : Memory} {a : Nat} (b : Byte) (ha : a < 4096) (h : Memory.wf m = true) :
    Memory.wf (Memory.write m a b) = true := rising_write b (Nat.zero_le a) ha h

/-- A push keeps the one form. -/
theorem push_keeps_wf (b : Byte) {w : SlidingWindow} (h : Memory.wf w.win = true) :
    Memory.wf (push b w).win = true := write_keeps_wf b w.pos.isLt h

theorem rising_filterMap_range' (f : Nat → Option Byte) (n lo : Nat) (h : lo + n ≤ 4096) :
    Memory.rising lo ((List.range' lo n).filterMap fun a => (f a).map fun b => (a, b)) = true := by
  suffices H : ∀ n lo' lo, lo' ≤ lo → lo + n ≤ 4096 →
      Memory.rising lo' ((List.range' lo n).filterMap fun a => (f a).map fun b => (a, b)) = true from
    H n lo lo (Nat.le_refl _) h
  intro n
  induction n with
  | zero => intros; simp [Memory.rising]
  | succ n ih =>
    intro lo' lo hle hn
    rw [List.range'_succ]
    cases hf : f lo with
    | none => simpa [hf] using ih lo' (lo + 1) (by omega) (by omega)
    | some b =>
      simp only [List.filterMap_cons, hf, Option.map_some, Memory.rising, Bool.and_eq_true, decide_eq_true_eq]
      exact ⟨⟨hle, by omega⟩, ih (lo + 1) (lo + 1) (Nat.le_refl _) (by omega)⟩

/-- A memory given cell by cell has the one form. -/
theorem ofCells_wf (f : Nat → Option Byte) : Memory.wf (Memory.ofCells f) = true := by
  unfold Memory.ofCells
  simpa [Memory.wf, List.range_eq_range'] using rising_filterMap_range' f 4096 0 (by decide)

/-- All that `read_back` can answer (42_window.md R142, R143, R145). -/
theorem readBack_cases (d : Nat) (w : SlidingWindow) :
    (distanceTooFar w d = true ∧ readBack d w = .error .distanceTooFar) ∨
    (distanceTooFar w d = false ∧ (d = 0 ∨ 4096 < d) ∧ readBack d w = .error .outOfDomain) ∨
    (distanceTooFar w d = false ∧ 1 ≤ d ∧ d ≤ 4096 ∧
      ((∃ b, Memory.read w.win (readBackAddr w.pos d) = some b ∧ readBack d w = .ok b) ∨
       (Memory.read w.win (readBackAddr w.pos d) = none ∧ readBack d w = .error .noValue))) := by
  cases ht : distanceTooFar w d with
  | true => exact .inl ⟨rfl, by simp [readBack, ht]⟩
  | false =>
    by_cases hd : d = 0 ∨ 4096 < d
    · exact .inr (.inl ⟨rfl, hd, by simp [readBack, ht, hd]⟩)
    · refine .inr (.inr ⟨rfl, by omega, by omega, ?_⟩)
      cases hm : Memory.read w.win (readBackAddr w.pos d) with
      | some b => exact .inl ⟨b, rfl, by simp [readBack, ht, hd, hm]⟩
      | none => exact .inr ⟨rfl, by simp [readBack, ht, hd, hm]⟩

end Sys2Proof.Machine
end

