-- ==== Sys2Proof/Laws/Ops.lean ====
section
/-!
SUPPORT. What each shared operation can do, said once: the later proofs cite these lemmas and do not unfold the
operations.
-/
namespace Sys2Proof.Machine

/-- Failure entry leaves the window in the one form. -/
theorem raise_keeps_wf (e : DecodeError) (s : State) : Memory.wf (raise e s).sw.win = true := ofCells_wf _

/-- All that the header step can do with this machine's tables (43_decoder.md R161, R162). -/
theorem takeHeader_cases (l k : Byte) (s : State) :
    ((legalLit l && legalDictBits k) = false ∧
      takeHeader tableParams l k s = .next (raise .invalidHeader s)) ∨
    (legalLit l = true ∧ legalDictBits k = true ∧
      takeHeader tableParams l k s = .next (loadHeader tableParams l k s)) := by
  cases hl : legalLit l <;> cases hk : legalDictBits k <;> simp [takeHeader, hl, hk, wfParams_default]

/-- One byte of a copy (R170). -/
theorem copyBytes_succ_ok {d n : Nat} {s : State} {b : Byte} (h : readBack d s.sw = .ok b) :
    copyBytes d (n + 1) s = copyBytes d n (emit b s) := by simp [copyBytes, h]

/-- All that a copy that answers a next state can have done: it took the failure of a distance too far, or it appended
`n` bytes, and touched nothing but the output and the window. -/
theorem copyBytes_next {d n : Nat} {s t : State} (h : copyBytes d n s = .next t) :
    (t.phase = .failed ∧ t.err = some .corruptStream ∧ t.inp = s.inp ∧ Memory.wf t.sw.win = true) ∨
    (∃ bs sw, bs.length = n ∧ t = { s with out := s.out ++ bs, sw := sw } ∧
      (Memory.wf s.sw.win = true → Memory.wf sw.win = true)) := by
  induction n generalizing s with
  | zero =>
    simp only [copyBytes, Host.Outcome.next.injEq] at h
    exact .inr ⟨[], s.sw, rfl, by simp [h], id⟩
  | succ n ih =>
    simp only [copyBytes] at h
    split at h
    · rename_i b _
      obtain ⟨h1, h2, h3, h4⟩ | ⟨bs, sw, hl, rfl, hw⟩ := ih h
      · exact .inl ⟨h1, h2, h3, h4⟩
      · exact .inr ⟨b :: bs, sw, by simp [hl], by simp [emit], fun h => hw (push_keeps_wf b h)⟩
    · cases h; exact .inl ⟨rfl, rfl, rfl, raise_keeps_wf _ _⟩
    · cases h
    · cases h

/-- All that a DIST row that answers a next state can have done (R168 to R170). -/
theorem takeDistance_next {dsym : Fin 64} {x : Nat} {s t : State} (h : takeDistance dsym x s = .next t) :
    ∃ n, s.matchLen = some n ∧
      ((t.phase = .failed ∧ t.err = some .corruptStream ∧ t.inp = s.inp ∧ Memory.wf t.sw.win = true) ∨
       (∃ bs sw, bs.length = n ∧ t = { s with matchLen := none, out := s.out ++ bs, sw := sw } ∧
         (Memory.wf s.sw.win = true → Memory.wf sw.win = true))) := by
  unfold takeDistance at h
  split at h
  · cases h
  · rename_i n hn
    refine ⟨n, hn, ?_⟩
    simp only at h
    split at h
    · cases h; exact .inl ⟨rfl, rfl, rfl, raise_keeps_wf _ _⟩
    · exact copyBytes_next h

/-- All that an instruction that answers a next state can have done, by shape. -/
theorem exec_next {i : Instr} {s t : State} (h : exec i s = .next t) :
    (∃ l k, i.form = .hdr l k ∧
      ((legalLit l && legalDictBits k) = false ∧ t = raise .invalidHeader s ∨
       legalLit l = true ∧ legalDictBits k = true ∧ t = loadHeader tableParams l k s)) ∨
    (∃ b, (i.form = .litRaw b ∨ i.form = .litHuf b) ∧ t = emit b s) ∨
    (∃ sym x, i.form = .matchLength sym x ∧ t = takeLength (lengthOf sym x) s) ∨
    (i.form = .endStream ∧ t = finish s) ∨
    (∃ dsym x, i.form = .matchDist dsym x ∧ takeDistance dsym x s = .next t) := by
  rw [exec_eq_execForm] at h
  cases hf : i.form with
  | hdr l k =>
    rw [hf] at h
    refine .inl ⟨l, k, rfl, ?_⟩
    obtain ⟨hl, he⟩ | ⟨hl, hk, he⟩ := takeHeader_cases l k s <;> simp only [execForm, he] at h <;> cases h
    · exact .inl ⟨hl, rfl⟩
    · exact .inr ⟨hl, hk, rfl⟩
  | litRaw b => rw [hf] at h; cases h; exact .inr (.inl ⟨b, .inl rfl, rfl⟩)
  | litHuf b => rw [hf] at h; cases h; exact .inr (.inl ⟨b, .inr rfl, rfl⟩)
  | matchLength sym x => rw [hf] at h; cases h; exact .inr (.inr (.inl ⟨sym, x, rfl, rfl⟩))
  | endStream => rw [hf] at h; cases h; exact .inr (.inr (.inr (.inl ⟨rfl, rfl⟩)))
  | matchDist dsym x => rw [hf] at h; exact .inr (.inr (.inr (.inr ⟨dsym, x, rfl, h⟩)))

/-- `bits(n)` in two parts: the refill, then the low bits of the accumulator (40_bitreader.md R102). -/
theorem bits_ok {inp : List Byte} {n v : Nat} {r r' : BitReader} (h : bits inp n r = .ok (v, r')) :
    n ≤ 16 ∧ ∃ q, refill inp n 2 r = .ok q ∧ v = q.acc &&& (2 ^ n - 1) ∧
      r' = { cur := q.cur, acc := q.acc >>> n, cnt := q.cnt - n } := by
  unfold bits at h
  split at h
  · cases h
  · rename_i hn
    refine ⟨Nat.le_of_not_lt hn, ?_⟩
    split at h
    · cases h
    · rename_i q hq
      simp only [Except.ok.injEq, Prod.mk.injEq] at h
      exact ⟨q, hq, h.1.symm, h.2.symm⟩

end Sys2Proof.Machine
end

