-- ==== Sys2Proof/Laws/PerInstr.lean ====
section
/-!
SUPPORT. One law for each constructor of `Instr`: the shape of an instruction gives the instruction back, so the shape
drops no operand and no two constructors share a shape. What is proved for every shape then holds for every
instruction.
-/
namespace Sys2Proof.Laws.FormRoundTrip

/-- The shape of `i` determines `i`. -/
def Statement (i : Instr) : Prop := i.form.toInstr = i

theorem hdr (l k : BitVec 8) : Statement (.hdr l k) := rfl
theorem litRaw (b : BitVec 8) : Statement (.litRaw b) := rfl
theorem litHuf00 : Statement .litHuf00 := rfl
theorem litHuf01 : Statement .litHuf01 := rfl
theorem litHuf02 : Statement .litHuf02 := rfl
theorem litHuf03 : Statement .litHuf03 := rfl
theorem litHuf04 : Statement .litHuf04 := rfl
theorem litHuf05 : Statement .litHuf05 := rfl
theorem litHuf06 : Statement .litHuf06 := rfl
theorem litHuf07 : Statement .litHuf07 := rfl
theorem litHuf08 : Statement .litHuf08 := rfl
theorem litHuf09 : Statement .litHuf09 := rfl
theorem litHuf0A : Statement .litHuf0A := rfl
theorem litHuf0B : Statement .litHuf0B := rfl
theorem litHuf0C : Statement .litHuf0C := rfl
theorem litHuf0D : Statement .litHuf0D := rfl
theorem litHuf0E : Statement .litHuf0E := rfl
theorem litHuf0F : Statement .litHuf0F := rfl
theorem litHuf10 : Statement .litHuf10 := rfl
theorem litHuf11 : Statement .litHuf11 := rfl
theorem litHuf12 : Statement .litHuf12 := rfl
theorem litHuf13 : Statement .litHuf13 := rfl
theorem litHuf14 : Statement .litHuf14 := rfl
theorem litHuf15 : Statement .litHuf15 := rfl
theorem litHuf16 : Statement .litHuf16 := rfl
theorem litHuf17 : Statement .litHuf17 := rfl
theorem litHuf18 : Statement .litHuf18 := rfl
theorem litHuf19 : Statement .litHuf19 := rfl
theorem litHuf1A : Statement .litHuf1A := rfl
theorem litHuf1B : Statement .litHuf1B := rfl
theorem litHuf1C : Statement .litHuf1C := rfl
theorem litHuf1D : Statement .litHuf1D := rfl
theorem litHuf1E : Statement .litHuf1E := rfl
theorem litHuf1F : Statement .litHuf1F := rfl
theorem litHuf20 : Statement .litHuf20 := rfl
theorem litHuf21 : Statement .litHuf21 := rfl
theorem litHuf22 : Statement .litHuf22 := rfl
theorem litHuf23 : Statement .litHuf23 := rfl
theorem litHuf24 : Statement .litHuf24 := rfl
theorem litHuf25 : Statement .litHuf25 := rfl
theorem litHuf26 : Statement .litHuf26 := rfl
theorem litHuf27 : Statement .litHuf27 := rfl
theorem litHuf28 : Statement .litHuf28 := rfl
theorem litHuf29 : Statement .litHuf29 := rfl
theorem litHuf2A : Statement .litHuf2A := rfl
theorem litHuf2B : Statement .litHuf2B := rfl
theorem litHuf2C : Statement .litHuf2C := rfl
theorem litHuf2D : Statement .litHuf2D := rfl
theorem litHuf2E : Statement .litHuf2E := rfl
theorem litHuf2F : Statement .litHuf2F := rfl
theorem litHuf30 : Statement .litHuf30 := rfl
theorem litHuf31 : Statement .litHuf31 := rfl
theorem litHuf32 : Statement .litHuf32 := rfl
theorem litHuf33 : Statement .litHuf33 := rfl
theorem litHuf34 : Statement .litHuf34 := rfl
theorem litHuf35 : Statement .litHuf35 := rfl
theorem litHuf36 : Statement .litHuf36 := rfl
theorem litHuf37 : Statement .litHuf37 := rfl
theorem litHuf38 : Statement .litHuf38 := rfl
theorem litHuf39 : Statement .litHuf39 := rfl
theorem litHuf3A : Statement .litHuf3A := rfl
theorem litHuf3B : Statement .litHuf3B := rfl
theorem litHuf3C : Statement .litHuf3C := rfl
theorem litHuf3D : Statement .litHuf3D := rfl
theorem litHuf3E : Statement .litHuf3E := rfl
theorem litHuf3F : Statement .litHuf3F := rfl
theorem litHuf40 : Statement .litHuf40 := rfl
theorem litHuf41 : Statement .litHuf41 := rfl
theorem litHuf42 : Statement .litHuf42 := rfl
theorem litHuf43 : Statement .litHuf43 := rfl
theorem litHuf44 : Statement .litHuf44 := rfl
theorem litHuf45 : Statement .litHuf45 := rfl
theorem litHuf46 : Statement .litHuf46 := rfl
theorem litHuf47 : Statement .litHuf47 := rfl
theorem litHuf48 : Statement .litHuf48 := rfl
theorem litHuf49 : Statement .litHuf49 := rfl
theorem litHuf4A : Statement .litHuf4A := rfl
theorem litHuf4B : Statement .litHuf4B := rfl
theorem litHuf4C : Statement .litHuf4C := rfl
theorem litHuf4D : Statement .litHuf4D := rfl
theorem litHuf4E : Statement .litHuf4E := rfl
theorem litHuf4F : Statement .litHuf4F := rfl
theorem litHuf50 : Statement .litHuf50 := rfl
theorem litHuf51 : Statement .litHuf51 := rfl
theorem litHuf52 : Statement .litHuf52 := rfl
theorem litHuf53 : Statement .litHuf53 := rfl
theorem litHuf54 : Statement .litHuf54 := rfl
theorem litHuf55 : Statement .litHuf55 := rfl
theorem litHuf56 : Statement .litHuf56 := rfl
theorem litHuf57 : Statement .litHuf57 := rfl
theorem litHuf58 : Statement .litHuf58 := rfl
theorem litHuf59 : Statement .litHuf59 := rfl
theorem litHuf5A : Statement .litHuf5A := rfl
theorem litHuf5B : Statement .litHuf5B := rfl
theorem litHuf5C : Statement .litHuf5C := rfl
theorem litHuf5D : Statement .litHuf5D := rfl
theorem litHuf5E : Statement .litHuf5E := rfl
theorem litHuf5F : Statement .litHuf5F := rfl
theorem litHuf60 : Statement .litHuf60 := rfl
theorem litHuf61 : Statement .litHuf61 := rfl
theorem litHuf62 : Statement .litHuf62 := rfl
theorem litHuf63 : Statement .litHuf63 := rfl
theorem litHuf64 : Statement .litHuf64 := rfl
theorem litHuf65 : Statement .litHuf65 := rfl
theorem litHuf66 : Statement .litHuf66 := rfl
theorem litHuf67 : Statement .litHuf67 := rfl
theorem litHuf68 : Statement .litHuf68 := rfl
theorem litHuf69 : Statement .litHuf69 := rfl
theorem litHuf6A : Statement .litHuf6A := rfl
theorem litHuf6B : Statement .litHuf6B := rfl
theorem litHuf6C : Statement .litHuf6C := rfl
theorem litHuf6D : Statement .litHuf6D := rfl
theorem litHuf6E : Statement .litHuf6E := rfl
theorem litHuf6F : Statement .litHuf6F := rfl
theorem litHuf70 : Statement .litHuf70 := rfl
theorem litHuf71 : Statement .litHuf71 := rfl
theorem litHuf72 : Statement .litHuf72 := rfl
theorem litHuf73 : Statement .litHuf73 := rfl
theorem litHuf74 : Statement .litHuf74 := rfl
theorem litHuf75 : Statement .litHuf75 := rfl
theorem litHuf76 : Statement .litHuf76 := rfl
theorem litHuf77 : Statement .litHuf77 := rfl
theorem litHuf78 : Statement .litHuf78 := rfl
theorem litHuf79 : Statement .litHuf79 := rfl
theorem litHuf7A : Statement .litHuf7A := rfl
theorem litHuf7B : Statement .litHuf7B := rfl
theorem litHuf7C : Statement .litHuf7C := rfl
theorem litHuf7D : Statement .litHuf7D := rfl
theorem litHuf7E : Statement .litHuf7E := rfl
theorem litHuf7F : Statement .litHuf7F := rfl
theorem litHuf80 : Statement .litHuf80 := rfl
theorem litHuf81 : Statement .litHuf81 := rfl
theorem litHuf82 : Statement .litHuf82 := rfl
theorem litHuf83 : Statement .litHuf83 := rfl
theorem litHuf84 : Statement .litHuf84 := rfl
theorem litHuf85 : Statement .litHuf85 := rfl
theorem litHuf86 : Statement .litHuf86 := rfl
theorem litHuf87 : Statement .litHuf87 := rfl
theorem litHuf88 : Statement .litHuf88 := rfl
theorem litHuf89 : Statement .litHuf89 := rfl
theorem litHuf8A : Statement .litHuf8A := rfl
theorem litHuf8B : Statement .litHuf8B := rfl
theorem litHuf8C : Statement .litHuf8C := rfl
theorem litHuf8D : Statement .litHuf8D := rfl
theorem litHuf8E : Statement .litHuf8E := rfl
theorem litHuf8F : Statement .litHuf8F := rfl
theorem litHuf90 : Statement .litHuf90 := rfl
theorem litHuf91 : Statement .litHuf91 := rfl
theorem litHuf92 : Statement .litHuf92 := rfl
theorem litHuf93 : Statement .litHuf93 := rfl
theorem litHuf94 : Statement .litHuf94 := rfl
theorem litHuf95 : Statement .litHuf95 := rfl
theorem litHuf96 : Statement .litHuf96 := rfl
theorem litHuf97 : Statement .litHuf97 := rfl
theorem litHuf98 : Statement .litHuf98 := rfl
theorem litHuf99 : Statement .litHuf99 := rfl
theorem litHuf9A : Statement .litHuf9A := rfl
theorem litHuf9B : Statement .litHuf9B := rfl
theorem litHuf9C : Statement .litHuf9C := rfl
theorem litHuf9D : Statement .litHuf9D := rfl
theorem litHuf9E : Statement .litHuf9E := rfl
theorem litHuf9F : Statement .litHuf9F := rfl
theorem litHufA0 : Statement .litHufA0 := rfl
theorem litHufA1 : Statement .litHufA1 := rfl
theorem litHufA2 : Statement .litHufA2 := rfl
theorem litHufA3 : Statement .litHufA3 := rfl
theorem litHufA4 : Statement .litHufA4 := rfl
theorem litHufA5 : Statement .litHufA5 := rfl
theorem litHufA6 : Statement .litHufA6 := rfl
theorem litHufA7 : Statement .litHufA7 := rfl
theorem litHufA8 : Statement .litHufA8 := rfl
theorem litHufA9 : Statement .litHufA9 := rfl
theorem litHufAA : Statement .litHufAA := rfl
theorem litHufAB : Statement .litHufAB := rfl
theorem litHufAC : Statement .litHufAC := rfl
theorem litHufAD : Statement .litHufAD := rfl
theorem litHufAE : Statement .litHufAE := rfl
theorem litHufAF : Statement .litHufAF := rfl
theorem litHufB0 : Statement .litHufB0 := rfl
theorem litHufB1 : Statement .litHufB1 := rfl
theorem litHufB2 : Statement .litHufB2 := rfl
theorem litHufB3 : Statement .litHufB3 := rfl
theorem litHufB4 : Statement .litHufB4 := rfl
theorem litHufB5 : Statement .litHufB5 := rfl
theorem litHufB6 : Statement .litHufB6 := rfl
theorem litHufB7 : Statement .litHufB7 := rfl
theorem litHufB8 : Statement .litHufB8 := rfl
theorem litHufB9 : Statement .litHufB9 := rfl
theorem litHufBA : Statement .litHufBA := rfl
theorem litHufBB : Statement .litHufBB := rfl
theorem litHufBC : Statement .litHufBC := rfl
theorem litHufBD : Statement .litHufBD := rfl
theorem litHufBE : Statement .litHufBE := rfl
theorem litHufBF : Statement .litHufBF := rfl
theorem litHufC0 : Statement .litHufC0 := rfl
theorem litHufC1 : Statement .litHufC1 := rfl
theorem litHufC2 : Statement .litHufC2 := rfl
theorem litHufC3 : Statement .litHufC3 := rfl
theorem litHufC4 : Statement .litHufC4 := rfl
theorem litHufC5 : Statement .litHufC5 := rfl
theorem litHufC6 : Statement .litHufC6 := rfl
theorem litHufC7 : Statement .litHufC7 := rfl
theorem litHufC8 : Statement .litHufC8 := rfl
theorem litHufC9 : Statement .litHufC9 := rfl
theorem litHufCA : Statement .litHufCA := rfl
theorem litHufCB : Statement .litHufCB := rfl
theorem litHufCC : Statement .litHufCC := rfl
theorem litHufCD : Statement .litHufCD := rfl
theorem litHufCE : Statement .litHufCE := rfl
theorem litHufCF : Statement .litHufCF := rfl
theorem litHufD0 : Statement .litHufD0 := rfl
theorem litHufD1 : Statement .litHufD1 := rfl
theorem litHufD2 : Statement .litHufD2 := rfl
theorem litHufD3 : Statement .litHufD3 := rfl
theorem litHufD4 : Statement .litHufD4 := rfl
theorem litHufD5 : Statement .litHufD5 := rfl
theorem litHufD6 : Statement .litHufD6 := rfl
theorem litHufD7 : Statement .litHufD7 := rfl
theorem litHufD8 : Statement .litHufD8 := rfl
theorem litHufD9 : Statement .litHufD9 := rfl
theorem litHufDA : Statement .litHufDA := rfl
theorem litHufDB : Statement .litHufDB := rfl
theorem litHufDC : Statement .litHufDC := rfl
theorem litHufDD : Statement .litHufDD := rfl
theorem litHufDE : Statement .litHufDE := rfl
theorem litHufDF : Statement .litHufDF := rfl
theorem litHufE0 : Statement .litHufE0 := rfl
theorem litHufE1 : Statement .litHufE1 := rfl
theorem litHufE2 : Statement .litHufE2 := rfl
theorem litHufE3 : Statement .litHufE3 := rfl
theorem litHufE4 : Statement .litHufE4 := rfl
theorem litHufE5 : Statement .litHufE5 := rfl
theorem litHufE6 : Statement .litHufE6 := rfl
theorem litHufE7 : Statement .litHufE7 := rfl
theorem litHufE8 : Statement .litHufE8 := rfl
theorem litHufE9 : Statement .litHufE9 := rfl
theorem litHufEA : Statement .litHufEA := rfl
theorem litHufEB : Statement .litHufEB := rfl
theorem litHufEC : Statement .litHufEC := rfl
theorem litHufED : Statement .litHufED := rfl
theorem litHufEE : Statement .litHufEE := rfl
theorem litHufEF : Statement .litHufEF := rfl
theorem litHufF0 : Statement .litHufF0 := rfl
theorem litHufF1 : Statement .litHufF1 := rfl
theorem litHufF2 : Statement .litHufF2 := rfl
theorem litHufF3 : Statement .litHufF3 := rfl
theorem litHufF4 : Statement .litHufF4 := rfl
theorem litHufF5 : Statement .litHufF5 := rfl
theorem litHufF6 : Statement .litHufF6 := rfl
theorem litHufF7 : Statement .litHufF7 := rfl
theorem litHufF8 : Statement .litHufF8 := rfl
theorem litHufF9 : Statement .litHufF9 := rfl
theorem litHufFA : Statement .litHufFA := rfl
theorem litHufFB : Statement .litHufFB := rfl
theorem litHufFC : Statement .litHufFC := rfl
theorem litHufFD : Statement .litHufFD := rfl
theorem litHufFE : Statement .litHufFE := rfl
theorem litHufFF : Statement .litHufFF := rfl
theorem matchL0 : Statement .matchL0 := rfl
theorem matchL1 : Statement .matchL1 := rfl
theorem matchL2 : Statement .matchL2 := rfl
theorem matchL3 : Statement .matchL3 := rfl
theorem matchL4 : Statement .matchL4 := rfl
theorem matchL5 : Statement .matchL5 := rfl
theorem matchL6 : Statement .matchL6 := rfl
theorem matchL7 : Statement .matchL7 := rfl
theorem matchL8 (x : BitVec 1) : Statement (.matchL8 x) := Laws.matchRow_toNat 8 x rfl
theorem matchL9 (x : BitVec 2) : Statement (.matchL9 x) := Laws.matchRow_toNat 9 x rfl
theorem matchL10 (x : BitVec 3) : Statement (.matchL10 x) := Laws.matchRow_toNat 10 x rfl
theorem matchL11 (x : BitVec 4) : Statement (.matchL11 x) := Laws.matchRow_toNat 11 x rfl
theorem matchL12 (x : BitVec 5) : Statement (.matchL12 x) := Laws.matchRow_toNat 12 x rfl
theorem matchL13 (x : BitVec 6) : Statement (.matchL13 x) := Laws.matchRow_toNat 13 x rfl
theorem matchL14 (x : BitVec 7) : Statement (.matchL14 x) := Laws.matchRow_toNat 14 x rfl
theorem matchL15 (x : BitVec 8) : Statement (.matchL15 x) := Laws.matchRow_toNat 15 x rfl
theorem endStream : Statement .endStream := rfl
theorem distD0 (x : Nat) : Statement (.distD0 x) := rfl
theorem distD1 (x : Nat) : Statement (.distD1 x) := rfl
theorem distD2 (x : Nat) : Statement (.distD2 x) := rfl
theorem distD3 (x : Nat) : Statement (.distD3 x) := rfl
theorem distD4 (x : Nat) : Statement (.distD4 x) := rfl
theorem distD5 (x : Nat) : Statement (.distD5 x) := rfl
theorem distD6 (x : Nat) : Statement (.distD6 x) := rfl
theorem distD7 (x : Nat) : Statement (.distD7 x) := rfl
theorem distD8 (x : Nat) : Statement (.distD8 x) := rfl
theorem distD9 (x : Nat) : Statement (.distD9 x) := rfl
theorem distD10 (x : Nat) : Statement (.distD10 x) := rfl
theorem distD11 (x : Nat) : Statement (.distD11 x) := rfl
theorem distD12 (x : Nat) : Statement (.distD12 x) := rfl
theorem distD13 (x : Nat) : Statement (.distD13 x) := rfl
theorem distD14 (x : Nat) : Statement (.distD14 x) := rfl
theorem distD15 (x : Nat) : Statement (.distD15 x) := rfl
theorem distD16 (x : Nat) : Statement (.distD16 x) := rfl
theorem distD17 (x : Nat) : Statement (.distD17 x) := rfl
theorem distD18 (x : Nat) : Statement (.distD18 x) := rfl
theorem distD19 (x : Nat) : Statement (.distD19 x) := rfl
theorem distD20 (x : Nat) : Statement (.distD20 x) := rfl
theorem distD21 (x : Nat) : Statement (.distD21 x) := rfl
theorem distD22 (x : Nat) : Statement (.distD22 x) := rfl
theorem distD23 (x : Nat) : Statement (.distD23 x) := rfl
theorem distD24 (x : Nat) : Statement (.distD24 x) := rfl
theorem distD25 (x : Nat) : Statement (.distD25 x) := rfl
theorem distD26 (x : Nat) : Statement (.distD26 x) := rfl
theorem distD27 (x : Nat) : Statement (.distD27 x) := rfl
theorem distD28 (x : Nat) : Statement (.distD28 x) := rfl
theorem distD29 (x : Nat) : Statement (.distD29 x) := rfl
theorem distD30 (x : Nat) : Statement (.distD30 x) := rfl
theorem distD31 (x : Nat) : Statement (.distD31 x) := rfl
theorem distD32 (x : Nat) : Statement (.distD32 x) := rfl
theorem distD33 (x : Nat) : Statement (.distD33 x) := rfl
theorem distD34 (x : Nat) : Statement (.distD34 x) := rfl
theorem distD35 (x : Nat) : Statement (.distD35 x) := rfl
theorem distD36 (x : Nat) : Statement (.distD36 x) := rfl
theorem distD37 (x : Nat) : Statement (.distD37 x) := rfl
theorem distD38 (x : Nat) : Statement (.distD38 x) := rfl
theorem distD39 (x : Nat) : Statement (.distD39 x) := rfl
theorem distD40 (x : Nat) : Statement (.distD40 x) := rfl
theorem distD41 (x : Nat) : Statement (.distD41 x) := rfl
theorem distD42 (x : Nat) : Statement (.distD42 x) := rfl
theorem distD43 (x : Nat) : Statement (.distD43 x) := rfl
theorem distD44 (x : Nat) : Statement (.distD44 x) := rfl
theorem distD45 (x : Nat) : Statement (.distD45 x) := rfl
theorem distD46 (x : Nat) : Statement (.distD46 x) := rfl
theorem distD47 (x : Nat) : Statement (.distD47 x) := rfl
theorem distD48 (x : Nat) : Statement (.distD48 x) := rfl
theorem distD49 (x : Nat) : Statement (.distD49 x) := rfl
theorem distD50 (x : Nat) : Statement (.distD50 x) := rfl
theorem distD51 (x : Nat) : Statement (.distD51 x) := rfl
theorem distD52 (x : Nat) : Statement (.distD52 x) := rfl
theorem distD53 (x : Nat) : Statement (.distD53 x) := rfl
theorem distD54 (x : Nat) : Statement (.distD54 x) := rfl
theorem distD55 (x : Nat) : Statement (.distD55 x) := rfl
theorem distD56 (x : Nat) : Statement (.distD56 x) := rfl
theorem distD57 (x : Nat) : Statement (.distD57 x) := rfl
theorem distD58 (x : Nat) : Statement (.distD58 x) := rfl
theorem distD59 (x : Nat) : Statement (.distD59 x) := rfl
theorem distD60 (x : Nat) : Statement (.distD60 x) := rfl
theorem distD61 (x : Nat) : Statement (.distD61 x) := rfl
theorem distD62 (x : Nat) : Statement (.distD62 x) := rfl
theorem distD63 (x : Nat) : Statement (.distD63 x) := rfl

end Sys2Proof.Laws.FormRoundTrip
end

