-- ==== Sys2Proof/Laws/Read.lean ====
section
/-!
SUPPORT. What reading an instruction can give, said once: the shape fits the context, and its fields are in range.
-/
namespace Sys2Proof.Machine

/-- A raw field is below `2 ^ n` (40_bitreader.md R101). -/
theorem bits_lt {inp : List Byte} {n v : Nat} {r r' : BitReader} (h : bits inp n r = .ok (v, r')) : v < 2 ^ n := by
  obtain ⟨-, q, -, rfl, -⟩ := bits_ok h
  exact Nat.and_lt_two_pow _ (Nat.sub_lt (Nat.two_pow_pos n) (by decide))

theorem readHeader_ok {inp : List Byte} {r r' : BitReader} {f : Form} (h : readHeader inp r = .ok (f, r')) :
    ∃ l k, f = .hdr l k ∧ legalLit l = true := by
  unfold readHeader at h
  cases h0 : bits inp 8 r with
  | error e => simp [h0, bind, Except.bind] at h
  | ok p =>
    cases hl : legalLit (BitVec.ofNat 8 p.1) with
    | false => simp [h0, hl, bind, Except.bind, throw, throwThe, MonadExceptOf.throw] at h
    | true =>
      cases h1 : bits inp 8 p.2 with
      | error e => simp [h0, hl, h1, bind, Except.bind] at h
      | ok q =>
        simp [h0, hl, h1, bind, Except.bind, pure, Except.pure] at h
        exact ⟨_, _, h.1.symm, hl⟩

theorem readLiteral_ok {lit : BitVec 1} {T : Option HuffmanTable} {inp : List Byte} {r r' : BitReader} {f : Form}
    (h : readLiteral lit T inp r = .ok (f, r')) :
    ∃ b, (lit = 1 ∧ f = .litHuf b) ∨ (lit ≠ 1 ∧ f = .litRaw b) := by
  unfold readLiteral at h
  split at h
  · rename_i hl
    cases hs : readSymbol 256 T inp r with
    | error e => simp [hs, bind, Except.bind] at h
    | ok p => simp [hs, bind, Except.bind, pure, Except.pure] at h; exact ⟨_, .inl ⟨hl, h.1.symm⟩⟩
  · rename_i hl
    cases hs : bits inp 8 r with
    | error e => simp [hs, bind, Except.bind] at h
    | ok p => simp [hs, bind, Except.bind, pure, Except.pure] at h; exact ⟨_, .inr ⟨hl, h.1.symm⟩⟩

theorem readLength_ok {T : Option HuffmanTable} {inp : List Byte} {r r' : BitReader} {f : Form}
    (h : readLength T inp r = .ok (f, r')) :
    f = .endStream ∨
    ∃ sym x, f = .matchLength sym x ∧ lengthOf sym x ≠ endLength ∧ x < 2 ^ lengthExtra sym := by
  unfold readLength at h
  cases hs : readSymbol 16 T inp r with
  | error e => simp [hs, bind, Except.bind] at h
  | ok p =>
    cases hx : bits inp (lengthExtra p.1) p.2 with
    | error e => simp [hs, hx, bind, Except.bind] at h
    | ok q =>
      simp [hs, hx, bind, Except.bind, pure, Except.pure] at h
      by_cases he : lengthOf p.1 q.1 = endLength
      · exact .inl (by rw [← h.1, if_pos he])
      · exact .inr ⟨p.1, q.1, by rw [← h.1, if_neg he], he, bits_lt hx⟩

theorem readDistance_ok {k : Nat} {T : Option HuffmanTable} {inp : List Byte} {r r' : BitReader} {f : Form}
    (h : readDistance k T inp r = .ok (f, r')) : ∃ dsym x, f = .matchDist dsym x ∧ x < 2 ^ k := by
  unfold readDistance at h
  cases hs : readSymbol 64 T inp r with
  | error e => simp [hs, bind, Except.bind] at h
  | ok p =>
    cases hx : bits inp k p.2 with
    | error e => simp [hs, hx, bind, Except.bind] at h
    | ok q =>
      simp [hs, hx, bind, Except.bind, pure, Except.pure] at h
      exact ⟨_, _, h.1.symm, bits_lt hx⟩

/-- All that reading in a context can give. -/
theorem readForm_ok {ctx : Context} {inp : List Byte} {r r' : BitReader} {f : Form}
    (h : readForm ctx inp r = .ok (f, r')) :
    match ctx with
    | .header => ∃ l k, f = .hdr l k ∧ legalLit l = true
    | .unit lit _ _ =>
      (∃ b, (lit = 1 ∧ f = .litHuf b) ∨ (lit ≠ 1 ∧ f = .litRaw b)) ∨ f = .endStream ∨
        ∃ sym x, f = .matchLength sym x ∧ lengthOf sym x ≠ endLength ∧ x < 2 ^ lengthExtra sym
    | .distance k _ => ∃ dsym x, f = .matchDist dsym x ∧ x < 2 ^ k := by
  cases ctx with
  | header => exact readHeader_ok h
  | distance k T => exact readDistance_ok h
  | unit lit T L =>
    cases hb : bits inp 1 r with
    | error e => simp [readForm, hb, bind, Except.bind] at h
    | ok p =>
      simp only [readForm, hb, bind, Except.bind] at h
      split at h
      · exact .inl (readLiteral_ok h)
      · exact .inr (readLength_ok h)

end Sys2Proof.Machine
end

