-- ==== Sys2Proof/Laws/Step.lean ====
section
/-!
SUPPORT. What one step can do, said once.
-/
namespace Sys2Proof.Machine

/-- All that a step that answers a next state can have done: the decoder was running, and either reading the instruction
failed and the failure was taken, or the instruction read was run. -/
theorem step_next {s t : State} (h : step s = .next t) :
    s.running = true ∧
      ((∃ e, fetch s = .error (.raise e) ∧ t = raise e s) ∨
       (∃ i r, fetch s = .ok (i, r) ∧ exec i (s.advance r) = .next t)) := by
  have key : ∀ {s t : State}, runNext s = .next t →
      (∃ e, fetch s = .error (.raise e) ∧ t = raise e s) ∨
      (∃ i r, fetch s = .ok (i, r) ∧ exec i (s.advance r) = .next t) := by
    intro s t h
    unfold runNext at h
    split at h
    · rename_i e he
      cases e with
      | raise e => simp only [takeStop, Host.Outcome.next.injEq] at h; exact .inl ⟨e, he, h.symm⟩
      | bitsTooWide => cases h
      | tableNotBuilt => cases h
      | symbolOutOfRange => cases h
    · rename_i i r hf
      exact .inr ⟨i, r, hf, h⟩
  unfold step at h
  cases hp : s.phase <;> simp only [hp] at h
  · exact ⟨by simp [State.running, hp], key h⟩
  · exact ⟨by simp [State.running, hp], key h⟩
  · cases h
  · cases h

/-- The shape of an instruction read is the shape that was read. -/
theorem decode_ok {ctx : Context} {inp : List Byte} {r r' : BitReader} {i : Instr}
    (h : decode ctx inp r = .ok (i, r')) : ∃ f, readForm ctx inp r = .ok (f, r') ∧ i = f.toInstr := by
  unfold decode at h
  split at h
  · cases h
  · rename_i f q hf
    simp only [Except.ok.injEq, Prod.mk.injEq] at h
    exact ⟨f, by rw [hf, h.2], h.1.symm⟩

end Sys2Proof.Machine
end

