-- ==== Sys2Proof/Tests/Slice0.lean ====
section
/-!
SUPPORT. Small tests, each about one operation or one step. The expected values are the spec's own vectors
(95_test_vectors.md) or its rules' examples.
-/
namespace Sys2Proof.Tests

open Sys2Proof.Machine

/-! ## Well-formedness: what each check refuses (30_encoding.md R71, R77, R78, R84) -/

theorem test_wellFormed_refuses_lit_2 : (Instr.hdr 2 4).wellFormed = false := by decide
theorem test_wellFormed_refuses_dictBits_3 : (Instr.hdr 0 3).wellFormed = false := by decide
theorem test_wellFormed_refuses_dictBits_7 : (Instr.hdr 1 7).wellFormed = false := by decide
theorem test_wellFormed_refuses_length_519 : (Instr.matchL15 255).wellFormed = false := by decide
theorem test_wellFormed_refuses_wide_xlen : (Form.matchLength 8 2).wellFormed = false := by decide
theorem test_wellFormed_refuses_wide_xdist : (Instr.distD0 64).wellFormed = false := by decide
theorem test_wellFormed_allows_the_rest :
    [Instr.hdr 1 6, .litRaw 255, .litHufFF, .matchL15 254, .endStream, .distD63 63].all Instr.wellFormed = true := by
  decide
theorem test_fits_refuses_wide_xdist : (Context.distance 4 none).fits (.matchDist 0 16) = false := by decide

/-! ## BitReader (95_test_vectors.md 2.1) -/

/-- V-B1, V-B2: `bits(3)` of B5 01 is 5 and leaves (1, 22, 5). -/
theorem test_bits_3 : bits [0xB5, 0x01] 3 ⟨0, 0, 0⟩ = .ok (5, ⟨1, 22, 5⟩) := by rfl
/-- V-B1: then `bits(7)` is 54 across the byte boundary. -/
theorem test_bits_7 : bits [0xB5, 0x01] 7 ⟨1, 22, 5⟩ = .ok (54, ⟨2, 0, 6⟩) := by rfl
/-- V-B12: a 16-bit field that spans three bytes. -/
theorem test_bits_16 : bits [0xA7, 0x5C, 0x3E] 16 ⟨1, 1, 1⟩ = .ok (0x7CB9, ⟨3, 0, 1⟩) := by rfl
/-- V-B8: 6 bits left, 7 wanted. -/
theorem test_bits_end : bits [0xA7, 0x5C, 0x3E] 7 ⟨3, 15, 6⟩ = .error (.raise .unexpectedEndOfInput) := by rfl

/-! ## HuffmanTable (95_test_vectors.md 2.2, 2.3) -/

/-- V-H3: length 0 has no code, over-subscription is not checked. -/
theorem test_build_v_h3 : expand [0x03, 0x00, 0x11] = [3, 0, 1, 1] ∧
    buildTable [3, 0, 1, 1] = ⟨#v[2, 0, 1, 0, 0, 0, 0, 0, 0, 0, 0, 0, 0], [2, 3, 0]⟩ := by decide
/-- V-D2: the toy table 1, 2, 2 on the bits 01. -/
theorem test_decode_v_d2 : decodeSymbol (buildTable [1, 2, 2]) [0x02] ⟨0, 0, 0⟩ = .ok (1, ⟨1, 0, 6⟩) := by rfl
/-- V-D6: an unmatched pattern fails after the 13th bit. -/
theorem test_decode_v_d6 :
    decodeSymbol (buildTable [2, 2]) [0x00, 0x00] ⟨0, 0, 0⟩ = .error (.raise .invalidHuffmanCode) := by rfl
/-- V-D7: with fewer bits the end of input comes first. -/
theorem test_decode_v_d7 :
    decodeSymbol (buildTable [2, 2]) [0x00] ⟨0, 0, 0⟩ = .error (.raise .unexpectedEndOfInput) := by rfl
/-- V-D11: length symbol 15 is seven 0 bits. -/
theorem test_decode_v_d11 : decodeSymbol defaultLenTable [0x00] ⟨0, 0, 0⟩ = .ok (15, ⟨1, 0, 1⟩) := by rfl

/-! ## SlidingWindow (95_test_vectors.md 2.4) -/

/-- A window at the end of its first pass: cells 0 and 4094 hold 0xB0 and 0xBE. -/
def almostFull : SlidingWindow := ⟨[(0, 0xB0), (4094, 0xBE)], 4095, false⟩

/-- V-S1: nothing can be read from an empty window. -/
theorem test_readBack_empty : readBack 1 SlidingWindow.init = .error .distanceTooFar := by rfl
/-- V-S4: distance 4095 reads cell 0, 4096 is too far. -/
theorem test_readBack_v_s4 : readBack 4095 almostFull = .ok 0xB0 ∧ readBack 4096 almostFull = .error .distanceTooFar :=
  ⟨rfl, rfl⟩
/-- V-S5: the push at 4095 wraps. -/
theorem test_push_wraps : (push 0x11 almostFull).pos = 0 ∧ (push 0x11 almostFull).wrapped = true := by decide
/-- V-S6: once wrapped the check is off. -/
theorem test_readBack_v_s6 :
    readBack 1 (push 0x11 almostFull) = .ok 0x11 ∧ readBack 4096 (push 0x11 almostFull) = .ok 0xB0 := ⟨rfl, rfl⟩

/-! ## Single instructions -/

/-- What a next state holds; none for a fault or a refusal. -/
def after {α : Type} (o : Host.Outcome State Fault Refusal) (f : State → α) : Option α :=
  match o with
  | .next t => some (f t)
  | .fault _ => none
  | .refused _ => none

/-- A decoder in its loop, with the default tables, at bit 16 of an input. -/
def inLoop (lit : BitVec 1) (dictBits : Byte) (inp out : List Byte) : State :=
  { State.start inp with
    br := ⟨2, 0, 0⟩, lit := lit, dictBits := dictBits, phase := .decodeLoop, out := out
    sw := out.foldl (fun w b => push b w) SlidingWindow.init
    litTable := some defaultLitTable, lenTable := some defaultLenTable, distTable := some defaultDistTable }

/-- V-HD12: a legal header. -/
theorem test_step_header : after (step (State.start [0x01, 0x06]))
    (fun t => (t.lit, t.dictBits, t.phase, t.bitpos)) = some (1, 6, .decodeLoop, 16) := by decide +kernel
/-- V-HD4: `lit = 2` is checked before the second byte is read. -/
theorem test_step_header_illegal :
    after (step (State.start [0x02])) (fun t => (t.phase, t.err)) = some (.failed, some .invalidHeader) := by
  decide +kernel
/-- V-L1, first unit: LIT 0x41 in mode 0. -/
theorem test_step_litRaw : after (step (inLoop 0 4 [0x00, 0x04, 0x82, 0x02, 0xFE, 0x01] []))
    (fun t => (t.out, t.bitpos, t.sw)) = some ([0x41], 25, ⟨[(0, 0x41)], 1, false⟩) := by decide +kernel
/-- V-L4: flag and 7 of 8 bits. -/
theorem test_step_litRaw_truncated : after (step (inLoop 0 4 [0x00, 0x04, 0x82] []))
    (fun t => (t.phase, t.err)) = some (.failed, some .unexpectedEndOfInput) := by decide +kernel
/-- V-LH2, first unit: LIT 0x41 in mode 1. -/
theorem test_step_litHuf : after (step (inLoop 1 4 [0x01, 0x04, 0xE2, 0x80, 0x7F] []))
    (fun t => (t.out, t.bitpos)) = some ([0x41], 23) := by decide +kernel
/-- V-E1: END. -/
theorem test_step_end : after (step (inLoop 0 4 [0x00, 0x04, 0x01, 0xFF] []))
    (fun t => (t.phase, t.bitpos, t.outcome.isSome)) = some (.done, 32, true) := by decide +kernel
/-- V-E4: symbol 15 with extra bits 127 is length 391, not END. -/
theorem test_step_length_391 : after (step (inLoop 0 4 [0x00, 0x04, 0x01, 0x7F] []))
    (fun t => (t.phase, t.matchLen, t.bitpos)) = some (.decodeLoop, some 391, 32) := by decide +kernel
/-- G1, step 4: length 11, distance 2, an overlapping copy. -/
theorem test_exec_dist_overlap :
    after (exec (.distD0 1) { inLoop 0 4 [] [0x41, 0x49] with matchLen := some 11 }) (fun t => (t.out, t.matchLen)) =
      some ([0x41, 0x49, 0x41, 0x49, 0x41, 0x49, 0x41, 0x49, 0x41, 0x49, 0x41, 0x49, 0x41], none) := by decide +kernel
/-- S3: length 2 takes 2 extra bits whatever `dict_bits` is: `dsym` 1 and value 0 are distance 5. -/
theorem test_exec_dist_length_2 :
    after (exec (.distD1 0) { inLoop 0 6 [] [0x11, 0x22, 0x33, 0x44, 0x55] with matchLen := some 2 }) (·.out) =
      some [0x11, 0x22, 0x33, 0x44, 0x55, 0x11, 0x22] := by decide +kernel
/-- V-V2: distance `pos + 1` before the first wrap. -/
theorem test_exec_dist_too_far :
    after (exec (.distD0 1) { inLoop 0 4 [] [0x41] with matchLen := some 3 }) (fun t => (t.phase, t.err)) =
      some (.failed, some .corruptStream) := by decide +kernel

/-! ## The words of the opcode table, placed at reset -/

theorem test_withFetchWord_end :
    after (step (State.reset.withFetchWord 16 0x80FF)) (·.phase) = some .done := by decide +kernel
theorem test_withFetchWord_litHuf :
    after (step (State.reset.withFetchWord 8 0x23)) (·.out) = some [0x0A] := by decide +kernel
theorem test_withFetchWord_match :
    after (step (State.reset.withFetchWord 8 0x8D)) (·.matchLen) = some (some 14) := by decide +kernel
theorem test_withFetchWord_dist :
    after (step (State.reset.withFetchWord 8 0x07)) (fun t => (t.phase, t.err)) =
      some (.failed, some .corruptStream) := by decide +kernel

end Sys2Proof.Tests
end

