-- ==== Sys2Proof/Tests/Witnesses.lean ====
section
/-!
SUPPORT. For each statement with hypotheses, a concrete state and operands that meet all of them together: theorem
witness_<statement>, at a boundary value for each clause that has a range.
-/
namespace Sys2Proof.Tests

open Sys2Proof.Machine

/-! ## Building blocks -/

theorem init_agrees (inp : List Byte) : BitReader.Agrees inp ⟨0, 0, 0⟩ :=
  ⟨by decide, by decide, Nat.zero_le _, rfl⟩

theorem empty_history_agrees : HistoryAgrees [] SlidingWindow.init :=
  ⟨rfl, rfl, fun d h1 h2 => by simp at h2; omega, fun a => by simp [SlidingWindow.init, Memory.read]⟩

/-- The window after the byte 0x41. -/
def one : SlidingWindow := ⟨[(0, 0x41)], 1, false⟩

theorem one_history_agrees : HistoryAgrees [0x41] one := by
  refine ⟨rfl, rfl, fun d h1 h2 => ?_, fun a => ?_⟩
  · obtain rfl : d = 1 := by simp at h2; omega
    decide
  · by_cases h : a = 0
    · subst h; rfl
    · have : ¬ 0 = a := fun e => h e.symm
      simp [one, Memory.read, this]; omega

theorem start_empty_inv : (State.start []).Inv := by
  refine ⟨rfl, by simp, fun _ => ⟨rfl, init_agrees _, empty_history_agrees⟩, by simp [State.bitpos, State.start,
    State.reset, BitReader.bitpos], by simp⟩

theorem start_header_inv : (State.start [0x00, 0x04]).Inv := by
  refine ⟨rfl, by simp, fun _ => ⟨rfl, init_agrees _, empty_history_agrees⟩, by simp [State.bitpos, State.start,
    State.reset, BitReader.bitpos], by simp⟩

/-- A decoder in its loop over a given input. -/
def loop0 (inp : List Byte) : State := inLoop 0 4 inp []

/-- The reader after the two header bytes. -/
theorem after_header_agrees (inp : List Byte) (h : 2 ≤ inp.length) : BitReader.Agrees inp ⟨2, 0, 0⟩ :=
  ⟨by decide, by decide, h, rfl⟩

theorem loop_headerDone (lit : BitVec 1) (inp out : List Byte) : HeaderDone (inLoop lit 4 inp out) :=
  ⟨fun _ => by rw [buildLit_default]; rfl, by rw [buildLen_default]; rfl, by rw [buildDist_default]; rfl, by
    show legalDictBits 4 = true; decide⟩

/-- The output 0x41 and a match of length 3 whose distance comes next. -/
def inMatch : State := { loop0 [] with out := [0x41], sw := one, matchLen := some 3 }

/-- The bits `code` stand at a position: a decidable form of `StreamHas` for concrete inputs. -/
def streamHasB (inp : List Byte) (p : Nat) (code : List Bool) : Bool :=
  decide (p + code.length ≤ 8 * inp.length) &&
    (List.range code.length).all fun j => code[j]? == some (streamBit inp (p + j))

theorem streamHas_of {inp : List Byte} {p : Nat} {c : List Bool} (h : streamHasB inp p c = true) :
    StreamHas inp p c := by
  simp only [streamHasB, Bool.and_eq_true, decide_eq_true_eq, List.all_eq_true, List.mem_range, beq_iff_eq] at h
  exact h

/-! ## Reset -/

theorem witness_ResetMakesFreshSubBlocks : inMatch.inp = (finish inMatch).inp ∧ inMatch ≠ finish inMatch :=
    ⟨rfl, fun h => absurd (congrArg State.phase h) (by decide)⟩

/-! ## BitReader -/

theorem witness_BitsMeetsAbstractContract_fits :
    BitReader.Agrees [0xFF, 0xFF] ⟨0, 0, 0⟩ ∧ 16 ≤ 16 ∧ BitReader.bitpos ⟨0, 0, 0⟩ + 16 ≤ 8 * [0xFF, (0xFF : Byte)].length :=
  ⟨init_agrees _, by decide, by decide⟩

theorem witness_BitsMeetsAbstractContract_end :
    BitReader.Agrees [0xFF] ⟨0, 0, 0⟩ ∧ 9 ≤ 16 ∧ 8 * [(0xFF : Byte)].length < BitReader.bitpos ⟨0, 0, 0⟩ + 9 :=
  ⟨init_agrees _, by decide, by decide⟩

theorem witness_BitsRequestsCompose :
    BitReader.Agrees [0xB5, 0x01] ⟨0, 0, 0⟩ ∧ 3 + 7 ≤ 16 ∧
    bits [0xB5, 0x01] 3 ⟨0, 0, 0⟩ = .ok (5, ⟨1, 22, 5⟩) ∧ bits [0xB5, 0x01] 7 ⟨1, 22, 5⟩ = .ok (54, ⟨2, 0, 6⟩) :=
  ⟨init_agrees _, by decide, rfl, rfl⟩

theorem witness_CursorIsPositionRoundedUp : BitReader.Agrees [0xB5, 0x01] ⟨1, 22, 5⟩ :=
  ⟨by decide, by decide, by decide, by decide⟩

theorem witness_BitsAboveSixteenRefused : 16 < 17 := by decide

/-! ## HuffmanTable -/

theorem witness_TableHoldsCodedSymbolsInOrder : (1 ≤ 1 ∧ 1 ≤ 13) ∧ (1 ≤ 13 ∧ 13 ≤ 13) := by decide

theorem witness_HuffmanCodeDecodesToItsSymbol :
    (∀ l ∈ [1, 2, 2], l ≤ 13) ∧ kraftSum [1, 2, 2] ≤ 2 ^ 13 ∧ [1, 2, 2][2]? = some 2 ∧ 1 ≤ 2 ∧
    codeBits (buildTable [1, 2, 2]) 2 = some [false, false] ∧
    BitReader.Agrees [0x00] ⟨0, 0, 0⟩ ∧ StreamHas [0x00] (BitReader.bitpos ⟨0, 0, 0⟩) [false, false] :=
  ⟨by decide, by decide, rfl, by decide, by decide, init_agrees _, streamHas_of (by decide)⟩

theorem witness_CompleteTableAlwaysMatches :
    (∀ l ∈ [1, 2, 2], l ≤ 13) ∧ kraftSum [1, 2, 2] = 2 ^ 13 ∧ BitReader.Agrees [] ⟨0, 0, 0⟩ :=
  ⟨by decide, by decide, init_agrees _⟩

theorem witness_SymbolDecodeFailsByRule_end : BitReader.Agrees [0x00] ⟨0, 0, 0⟩ ∧
    decodeSymbol (buildTable [2, 2]) [0x00] ⟨0, 0, 0⟩ = .error (.raise .unexpectedEndOfInput) :=
  ⟨init_agrees _, test_decode_v_d7⟩

theorem witness_SymbolDecodeFailsByRule_pattern : BitReader.Agrees [0x00, 0x00] ⟨0, 0, 0⟩ ∧
    decodeSymbol (buildTable [2, 2]) [0x00, 0x00] ⟨0, 0, 0⟩ = .error (.raise .invalidHuffmanCode) :=
  ⟨init_agrees _, test_decode_v_d6⟩

/-! ## SlidingWindow -/

theorem witness_PushWritesOneCellAndMovesOn : 0 ≠ one.pos.val := by decide

theorem witness_ReadBackChecksThenReads_far :
    1 ≤ 4096 ∧ 4096 ≤ 4096 ∧ almostFull.wrapped = false ∧ almostFull.pos.val < 4096 := by decide

theorem witness_ReadBackChecksThenReads_near :
    1 ≤ 4095 ∧ 4095 ≤ 4096 ∧ ¬(almostFull.wrapped = false ∧ almostFull.pos.val < 4095) ∧
    Memory.read almostFull.win ((almostFull.pos.val + 4096 - 4095) % 4096) = some 0xB0 := by decide

theorem witness_ReadBackChecksThenReads_wrapped :
    1 ≤ 4096 ∧ ¬((push 0x11 almostFull).wrapped = false ∧ (push 0x11 almostFull).pos.val < 4096) ∧
    Memory.read (push 0x11 almostFull).win (((push 0x11 almostFull).pos.val + 4096 - 4096) % 4096) = some 0xB0 := by
  decide

theorem witness_PushShiftsHistoryByOne : (1 ≤ 1 ∧ 1 ≤ 4095) ∧ (1 ≤ 4095 ∧ 4095 ≤ 4095) := by decide

theorem witness_ReadBackReadsTheOutput_inside :
    HistoryAgrees [0x41] one ∧ 1 ≤ 1 ∧ 1 ≤ 4096 ∧ 1 ≤ [(0x41 : Byte)].length :=
  ⟨one_history_agrees, by decide, by decide, by decide⟩

theorem witness_ReadBackReadsTheOutput_beyond :
    HistoryAgrees [0x41] one ∧ 1 ≤ 2 ∧ 2 ≤ 4096 ∧ [(0x41 : Byte)].length < 2 :=
  ⟨one_history_agrees, by decide, by decide, by decide⟩

/-! ## HDR -/

theorem witness_LegalHeaderBuildsTables :
    ((0 : BitVec 8).toNat ≤ 1 ∧ 4 ≤ (4 : BitVec 8).toNat ∧ (4 : BitVec 8).toNat ≤ 6) ∧
    ((1 : BitVec 8).toNat ≤ 1 ∧ 4 ≤ (6 : BitVec 8).toNat ∧ (6 : BitVec 8).toNat ≤ 6) := by decide

theorem witness_IllegalHeaderRaises :
    ¬((2 : BitVec 8).toNat ≤ 1 ∧ 4 ≤ (4 : BitVec 8).toNat ∧ (4 : BitVec 8).toNat ≤ 6) ∧
    ¬((1 : BitVec 8).toNat ≤ 1 ∧ 4 ≤ (3 : BitVec 8).toNat ∧ (3 : BitVec 8).toNat ≤ 6) ∧
    ¬((0 : BitVec 8).toNat ≤ 1 ∧ 4 ≤ (7 : BitVec 8).toNat ∧ (7 : BitVec 8).toNat ≤ 6) := by decide

theorem witness_HeaderStepOnEveryInput :
    1 < (2 : Byte).toNat ∧ (1 : Byte).toNat ≤ 1 ∧ ((3 : Byte).toNat < 4 ∨ 6 < (3 : Byte).toNat) ∧
    ((7 : Byte).toNat < 4 ∨ 6 < (7 : Byte).toNat) ∧ 4 ≤ (4 : Byte).toNat ∧ (6 : Byte).toNat ≤ 6 := by decide

/-! ## Literals -/

theorem witness_RawLiteralEmitsItsByte : 0 ≠ inMatch.sw.pos.val := by decide

theorem witness_HuffmanLiteralEmitsItsByte :
    Instr.form .litHuf00 = .litHuf 0x00 ∧ Instr.form .litHufFF = .litHuf 0xFF := ⟨rfl, rfl⟩

theorem witness_RawLiteralUnitStep_whole :
    (loop0 [0x00, 0x04, 0x82, 0x02]).phase = .decodeLoop ∧ (loop0 [0x00, 0x04, 0x82, 0x02]).matchLen = none ∧
    (loop0 [0x00, 0x04, 0x82, 0x02]).lit ≠ 1 ∧
    BitReader.Agrees (loop0 [0x00, 0x04, 0x82, 0x02]).inp (loop0 [0x00, 0x04, 0x82, 0x02]).br ∧
    StreamHas (loop0 [0x00, 0x04, 0x82, 0x02]).inp (loop0 [0x00, 0x04, 0x82, 0x02]).bitpos
      (false :: rawBits 8 (0x41 : Byte).toNat) :=
  ⟨rfl, rfl, by decide, after_header_agrees _ (by decide), streamHas_of (by decide)⟩

theorem witness_RawLiteralUnitStep_truncated :
    BitReader.Agrees (loop0 [0x00, 0x04, 0x82]).inp (loop0 [0x00, 0x04, 0x82]).br ∧
    (loop0 [0x00, 0x04, 0x82]).phase = .decodeLoop ∧ (loop0 [0x00, 0x04, 0x82]).matchLen = none ∧
    (loop0 [0x00, 0x04, 0x82]).lit ≠ 1 ∧
    StreamHas (loop0 [0x00, 0x04, 0x82]).inp (loop0 [0x00, 0x04, 0x82]).bitpos [false] ∧
    8 * (loop0 [0x00, 0x04, 0x82]).inp.length < (loop0 [0x00, 0x04, 0x82]).bitpos + 9 :=
  ⟨after_header_agrees _ (by decide), rfl, rfl, by decide, streamHas_of (by decide), by decide⟩

theorem witness_RawLiteralUnitStep_noFlag :
    BitReader.Agrees (loop0 [0x00, 0x04]).inp (loop0 [0x00, 0x04]).br ∧ (loop0 [0x00, 0x04]).phase = .decodeLoop ∧
    (loop0 [0x00, 0x04]).matchLen = none ∧ (loop0 [0x00, 0x04]).lit ≠ 1 ∧
    8 * (loop0 [0x00, 0x04]).inp.length = (loop0 [0x00, 0x04]).bitpos :=
  ⟨after_header_agrees _ (by decide), rfl, rfl, by decide, by decide⟩

theorem witness_HuffmanLiteralUnitStep :
    (inLoop 1 4 [0x01, 0x04, 0xE2] []).phase = .decodeLoop ∧ (inLoop 1 4 [0x01, 0x04, 0xE2] []).matchLen = none ∧
    (inLoop 1 4 [0x01, 0x04, 0xE2] []).lit = 1 ∧ HeaderDone (inLoop 1 4 [0x01, 0x04, 0xE2] []) ∧
    BitReader.Agrees (inLoop 1 4 [0x01, 0x04, 0xE2] []).inp (inLoop 1 4 [0x01, 0x04, 0xE2] []).br ∧
    codeBits (buildLit tableParams) (0x41 : Byte).toNat = some [true, false, false, false, true, true] ∧
    StreamHas (inLoop 1 4 [0x01, 0x04, 0xE2] []).inp (inLoop 1 4 [0x01, 0x04, 0xE2] []).bitpos
      (false :: [true, false, false, false, true, true]) :=
  ⟨rfl, rfl, rfl, loop_headerDone _ _ _, after_header_agrees _ (by decide), by rw [buildLit_default]; decide +kernel,
    streamHas_of (by decide)⟩

/-! ## Matches -/

theorem witness_EveryLengthHasOneEncoding :
    (2 ≤ 2 ∧ 2 ≤ 519) ∧ (2 ≤ 519 ∧ 519 ≤ 519) ∧ 0 < 2 ^ lengthExtra 1 ∧ lengthOf 1 0 = 2 ∧
    255 < 2 ^ lengthExtra 15 ∧ lengthOf 15 255 = 519 := by decide

theorem witness_MatchLengthIsAssembled :
    Instr.form .matchL0 = .matchLength 0 0 ∧ Instr.form (.matchL15 255) = .matchLength 15 255 ∧
    255 < 2 ^ extra.getD (15 : Fin 16).val 0 := by decide

theorem witness_EndDeliversTheOutput :
    exec .endStream inMatch = .next { inMatch with phase := .done } ∧ 255 < 2 ^ lengthExtra 15 ∧
    ∃ t, step (loop0 [0x00, 0x04, 0x01, 0xFF]) = .next t ∧ t.phase = .done := ⟨rfl, by decide, _, rfl, rfl⟩

theorem witness_EveryDistanceHasOneEncoding :
    (2 = 2 ∨ 2 = 4 ∨ 2 = 5 ∨ 2 = 6) ∧ 3 < 2 ^ 2 ∧ distanceOf 63 2 3 = 64 * 2 ^ 2 ∧ 1 ≤ 1 ∧ distanceOf 0 6 0 = 1 := by
  decide

theorem witness_MatchCopiesFromHistory :
    Instr.form (.distD0 0) = .matchDist 0 0 ∧ inMatch.matchLen = some 3 ∧ HistoryAgrees inMatch.out inMatch.sw ∧
    distanceOf 0 (distanceExtra 3 inMatch.dictBits) 0 ≤ min inMatch.out.length 4096 ∧
    (∀ j, j < 3 → 0 ≠ (inMatch.sw.pos.val + j) % 4096) :=
  ⟨rfl, rfl, one_history_agrees, by decide, by decide⟩

theorem witness_DistanceTooFarRaises :
    Instr.form (.distD0 1) = .matchDist 0 1 ∧ inMatch.matchLen = some 3 ∧ inMatch.sw.wrapped = false ∧
    inMatch.sw.pos.val < distanceOf 0 (distanceExtra 3 inMatch.dictBits) 1 := by decide

theorem witness_OneValidationIsEnough :
    1 ≤ 1 ∧ 1 ≤ 4096 ∧ distanceTooFar inMatch.sw 1 = false ∧
    ∃ t, copyBytes 1 3 inMatch = .next t := ⟨by decide, by decide, by decide, _, rfl⟩

theorem witness_DistanceOutsideMatchRefused :
    Instr.form (.distD5 0) = .matchDist 5 0 ∧ State.reset.matchLen = none := ⟨rfl, rfl⟩

/-! ## Steps -/

/-- The first step on the empty input takes `UnexpectedEndOfInput`. -/
theorem step_empty : step (State.start []) = .next (raise .unexpectedEndOfInput (State.start [])) := rfl

/-- The second step of the stream 00 04 and no more takes the failure in the decode loop. -/
theorem step_noFlag : step (loop0 [0x00, 0x04]) = .next (raise .unexpectedEndOfInput (loop0 [0x00, 0x04])) := rfl

/-- The header step on 00 04. -/
theorem step_header_ok : ∃ t, step (State.start [0x00, 0x04]) = .next t ∧ t.phase = .decodeLoop := by
  have hf : fetch (State.start [0x00, 0x04]) = .ok (.hdr 0 4, ⟨2, 0, 0⟩) := rfl
  have hs : step (State.start [0x00, 0x04]) = exec (.hdr 0 4) ((State.start [0x00, 0x04]).advance ⟨2, 0, 0⟩) := by
    simp only [step, runNext, hf, start_phase]
  rw [hs, exec_eq_execForm]
  obtain ⟨h, -⟩ | ⟨-, -, h⟩ := takeHeader_cases 0 4 ((State.start [0x00, 0x04]).advance ⟨2, 0, 0⟩)
  · exact absurd h (by decide)
  · exact ⟨_, h, rfl⟩

/-- A raw literal step. -/
theorem step_literal_ok : step (loop0 [0x00, 0x04, 0x82, 0x02]) =
    .next (emit 0x41 ((loop0 [0x00, 0x04, 0x82, 0x02]).advance ⟨4, 1, 7⟩)) := rfl

theorem witness_DoneAndFailedAreTerminal :
    (finish State.reset).phase = .done ∧ (raise .corruptStream State.reset).phase = .failed := ⟨rfl, rfl⟩

theorem witness_FailuresComeFromTheirUnits :
    ∃ t, step (State.start []) = .next t ∧ t.phase = .failed := ⟨_, step_empty, rfl⟩

/-- An illegal coding mode fails in ReadHeader. -/
theorem witness_FailuresComeFromTheirUnits_header :
    ∃ t, step (State.start [0x02]) = .next t ∧ t.phase = .failed ∧ t.err = some .invalidHeader := ⟨_, rfl, rfl, rfl⟩

/-- V-F6: a length table of two 2-bit codes, and 13 bits that match neither. -/
theorem witness_FailuresComeFromTheirUnits_huffman :
    ∃ t, step { loop0 [0x00, 0x04, 0x01, 0x00] with lenTable := some (buildTable [2, 2]) } = .next t ∧
      t.phase = .failed ∧ t.err = some .invalidHuffmanCode := ⟨_, rfl, rfl, rfl⟩

/-- A distance in an empty history. -/
theorem witness_FailuresComeFromTheirUnits_corrupt :
    ∃ t, step { loop0 [0x00, 0x04, 0x03] with matchLen := some 3 } = .next t ∧
      t.phase = .failed ∧ t.err = some .corruptStream := ⟨_, rfl, rfl, rfl⟩

theorem witness_InvalidHuffmanCodeUnreachable : (State.start []).Inv ∧ ∃ t, step (State.start []) = .next t :=
  ⟨start_empty_inv, _, step_empty⟩

theorem witness_StepRunsTheDecodedInstruction :
    (State.start [0x00, 0x04]).running = true ∧
    decode (State.start [0x00, 0x04]).context [0x00, 0x04] ⟨0, 0, 0⟩ = .ok (.hdr 0 4, ⟨2, 0, 0⟩) ∧
    (State.start []).running = true ∧
    decode (State.start []).context [] ⟨0, 0, 0⟩ = .error (.raise .unexpectedEndOfInput) ∧
    (loop0 []).phase = .decodeLoop ∧ (loop0 []).matchLen = none ∧ (loop0 []).running = true ∧
    inMatch.phase = .decodeLoop ∧ inMatch.matchLen = some 3 ∧ inMatch.running = true :=
  ⟨rfl, rfl, rfl, rfl, rfl, rfl, rfl, rfl, rfl, rfl⟩

theorem witness_PhasesFollowTheStateMachine :
    (∃ t, step (State.start [0x00, 0x04]) = .next t) ∧ ∃ t, step (loop0 [0x00, 0x04]) = .next t :=
  ⟨step_header_ok.imp fun _ h => h.1, _, step_noFlag⟩

theorem witness_UnitsAreAtomic :
    (State.start [0x00, 0x04]).Inv ∧ (State.start [0x00, 0x04]).running = true ∧
    (State.start [0x00, 0x04]).matchLen = none := ⟨start_header_inv, rfl, rfl⟩

theorem witness_InputIsNeverWritten : ∃ t, step (State.start [0x00, 0x04]) = .next t :=
  step_header_ok.imp fun _ h => h.1

theorem witness_HeaderStateIsWrittenOnce :
    ∃ t, step (loop0 [0x00, 0x04, 0x82, 0x02]) = .next t ∧ (loop0 [0x00, 0x04, 0x82, 0x02]).phase = .decodeLoop ∧
      t.phase ≠ .failed := ⟨_, step_literal_ok, rfl, by decide⟩

theorem witness_OutputOnlyGrows :
    (∃ t, step (loop0 [0x00, 0x04, 0x82, 0x02]) = .next t ∧ t.phase ≠ .failed) ∧
    ∃ t, step { loop0 [0x00, 0x04, 0x82, 0x02] with sw := push 0x11 almostFull } = .next t ∧ t.phase ≠ .failed ∧
      (push 0x11 almostFull).wrapped = true := ⟨⟨_, step_literal_ok, by decide⟩, _, rfl, by decide, by decide⟩

theorem witness_BitPositionMovesForward :
    (State.start [0x00, 0x04]).Inv ∧ ∃ t, step (State.start [0x00, 0x04]) = .next t ∧ t.phase ≠ .failed :=
  ⟨start_header_inv, step_header_ok.imp fun _ h => ⟨h.1, by rw [h.2]; decide⟩⟩

theorem witness_StepKeepsInvariant :
    (State.start [0x00, 0x04]).Inv ∧ ∃ t, step (State.start [0x00, 0x04]) = .next t :=
  ⟨start_header_inv, witness_InputIsNeverWritten⟩

theorem witness_RunningDecoderAlwaysSteps :
    (State.start [0x00, 0x04]).Inv ∧ (State.start [0x00, 0x04]).running = true := ⟨start_header_inv, rfl⟩

/-- V-E2: the bytes 00 04 01 FF are a whole decode, and DE after them is not read. -/
theorem witness_BitsAfterEndHaveNoEffect :
    (∃ t, Sys2Proof.core.run 2 (State.start [0x00, 0x04, 0x01, 0xFF]) = .next t ∧ t.phase = .done ∧ t.bitpos = 32) ∧
    (∀ j, j < 32 → streamBit [0x00, 0x04, 0x01, 0xFF, 0xDE] j = streamBit [0x00, 0x04, 0x01, 0xFF] j) ∧
    32 ≤ 8 * [(0x00 : Byte), 0x04, 0x01, 0xFF, 0xDE].length := by
  refine ⟨?_, by decide, by decide⟩
  have h : after (Sys2Proof.core.run 2 (State.start [0x00, 0x04, 0x01, 0xFF])) (fun t => (t.phase, t.bitpos)) =
      some (.done, 32) := by decide +kernel
  generalize Sys2Proof.core.run 2 (State.start [0x00, 0x04, 0x01, 0xFF]) = o at h
  cases o with
  | next t => exact ⟨t, rfl, by simpa [after] using h⟩
  | fault _ => cases h
  | refused _ => cases h

/-! ## Encoding -/

/-- A unit in mode 1. -/
def unit1 : Context := .unit 1 (some defaultLitTable) (some defaultLenTable)

theorem machineContexts :
    MachineContext .header ∧ MachineContext (.unit 1 (some defaultLitTable) (some defaultLenTable)) ∧
    MachineContext (.unit 0 none (some defaultLenTable)) ∧ MachineContext (.distance 4 (some defaultDistTable)) :=
  ⟨trivial, ⟨fun _ => by rw [buildLit_default], by rw [buildLen_default]⟩,
    ⟨fun h => absurd h (by decide), by rw [buildLen_default]⟩, .inr (.inl rfl), by rw [buildDist_default]⟩

theorem witness_DecodeInvertsEncode :
    (Instr.hdr 1 6).wellFormed = true ∧ Context.fits .header (Instr.hdr 1 6).form = true ∧
    Instr.litHufFF.wellFormed = true ∧ Context.fits unit1 Instr.litHufFF.form = true ∧
    (Instr.matchL15 254).wellFormed = true ∧ Context.fits unit1 (Instr.matchL15 254).form = true ∧
    (Instr.distD63 15).wellFormed = true ∧ Context.fits (.distance 4 (some defaultDistTable)) (Instr.distD63 15).form = true ∧
    BitReader.Agrees [0x01, 0x06] ⟨0, 0, 0⟩ ∧
    StreamHas [0x01, 0x06] (BitReader.bitpos ⟨0, 0, 0⟩) (rawBits 8 1 ++ rawBits 8 6) :=
  ⟨by decide, by decide, by decide, by decide, by decide, by decide, by decide, by decide, init_agrees _,
    streamHas_of (by decide)⟩

theorem witness_EncodingsArePrefixFree :
    MachineContext .header ∧ (Instr.hdr 1 6).wellFormed = true ∧ Context.fits .header (Instr.hdr 1 6).form = true ∧
    encode .header (.hdr 1 6) = some (rawBits 8 1 ++ rawBits 8 6) ∧
    rawBits 8 1 ++ rawBits 8 6 <+: rawBits 8 1 ++ rawBits 8 6 :=
  ⟨trivial, by decide, by decide, rfl, List.prefix_refl _⟩

end Sys2Proof.Tests
end

