-- ==== Sys2Proof/Tests/Words.lean ====
section
/-!
SUPPORT. Every constructor's decoding, shown on the pattern that spec/opcode_table.json writes for its row (30_encoding.md
R73 to R76, R81 to R83), bit by bit with the first bit read leftmost. A check holds if the decoder reads the
instruction from exactly the pattern and the encoder writes the pattern for the instruction. Of a MATCH row's extra
bits only the last read is set; a DIST row's 4 raw bits after the pattern are 0.
-/
namespace Sys2Proof.Tests

open Sys2Proof.Machine

/-- The decoder and the encoder agree with a row's pattern of `width` bits. -/
def agrees (ctx : Context) (row : Nat × Nat × Instr) : Bool :=
  readPattern ctx row.1 row.2.1 == some row.2.2 &&
    encode ctx row.2.2 == some (msbBits row.1 row.2.1 ++ List.replicate ctx.bitsBeyondPattern false)

/-- A unit of a stream in mode 1 with the default tables. -/
def unitCoded : Context := .unit 1 (some defaultLitTable) (some defaultLenTable)

/-- A unit of a stream in mode 0 with the default tables. -/
def unitRaw : Context := .unit 0 none (some defaultLenTable)

/-- The distance of a match with 4 extra bits and the default table. -/
def distance4 : Context := .distance 4 (some defaultDistTable)

set_option maxRecDepth 20000 in
theorem test_litHuf_patterns_0 :
  ([(12, 0b000001001001, .litHuf00), (13, 0b0000001111111, .litHuf01), (13, 0b0000001111110, .litHuf02),
   (13, 0b0000001111101, .litHuf03), (13, 0b0000001111100, .litHuf04), (13, 0b0000001111011, .litHuf05),
   (13, 0b0000001111010, .litHuf06), (13, 0b0000001111001, .litHuf07), (13, 0b0000001111000, .litHuf08),
   (9, 0b000011101, .litHuf09), (8, 0b00100011, .litHuf0A), (13, 0b0000001110111, .litHuf0B),
   (13, 0b0000001110110, .litHuf0C), (8, 0b00100010, .litHuf0D), (13, 0b0000001110101, .litHuf0E),
   (13, 0b0000001110100, .litHuf0F), (13, 0b0000001110011, .litHuf10), (13, 0b0000001110010, .litHuf11),
   (13, 0b0000001110001, .litHuf12), (13, 0b0000001110000, .litHuf13), (13, 0b0000001101111, .litHuf14),
   (13, 0b0000001101110, .litHuf15), (13, 0b0000001101101, .litHuf16), (13, 0b0000001101100, .litHuf17),
   (13, 0b0000001101011, .litHuf18), (13, 0b0000001101010, .litHuf19), (14, 0b00000001001001, .litHuf1A),
   (13, 0b0000001101001, .litHuf1B), (13, 0b0000001101000, .litHuf1C), (13, 0b0000001100111, .litHuf1D),
   (13, 0b0000001100110, .litHuf1E), (13, 0b0000001100101, .litHuf1F)] : List (Nat × Nat × Instr)).all (agrees unitCoded) = true := by decide +kernel

set_option maxRecDepth 20000 in
theorem test_litHuf_patterns_1 :
  ([(5, 0b01111, .litHuf20), (11, 0b00000101001, .litHuf21), (9, 0b000011100, .litHuf22),
   (13, 0b0000001100100, .litHuf23), (11, 0b00000101000, .litHuf24), (13, 0b0000001100011, .litHuf25),
   (11, 0b00000100111, .litHuf26), (9, 0b000011011, .litHuf27), (8, 0b00100001, .litHuf28),
   (8, 0b00100000, .litHuf29), (9, 0b000011010, .litHuf2A), (10, 0b0000011011, .litHuf2B),
   (8, 0b00011111, .litHuf2C), (7, 0b0100101, .litHuf2D), (8, 0b00011110, .litHuf2E),
   (9, 0b000011001, .litHuf2F), (8, 0b00011101, .litHuf30), (7, 0b0100100, .litHuf31),
   (8, 0b00011100, .litHuf32), (8, 0b00011011, .litHuf33), (8, 0b00011010, .litHuf34),
   (8, 0b00011001, .litHuf35), (9, 0b000011000, .litHuf36), (8, 0b00011000, .litHuf37),
   (8, 0b00010111, .litHuf38), (9, 0b000010111, .litHuf39), (9, 0b000010110, .litHuf3A),
   (13, 0b0000001100010, .litHuf3B), (12, 0b000001001000, .litHuf3C), (8, 0b00010110, .litHuf3D),
   (10, 0b0000011010, .litHuf3E), (12, 0b000001000111, .litHuf3F)] : List (Nat × Nat × Instr)).all (agrees unitCoded) = true := by decide +kernel

set_option maxRecDepth 20000 in
theorem test_litHuf_patterns_2 :
  ([(13, 0b0000001100001, .litHuf40), (7, 0b0100011, .litHuf41), (8, 0b00010101, .litHuf42),
   (7, 0b0100010, .litHuf43), (7, 0b0100001, .litHuf44), (6, 0b011101, .litHuf45),
   (8, 0b00010100, .litHuf46), (9, 0b000010101, .litHuf47), (9, 0b000010100, .litHuf48),
   (7, 0b0100000, .litHuf49), (12, 0b000001000110, .litHuf4A), (10, 0b0000011001, .litHuf4B),
   (7, 0b0011111, .litHuf4C), (8, 0b00010011, .litHuf4D), (7, 0b0011110, .litHuf4E),
   (7, 0b0011101, .litHuf4F), (8, 0b00010010, .litHuf50), (12, 0b000001000101, .litHuf51),
   (7, 0b0011100, .litHuf52), (7, 0b0011011, .litHuf53), (7, 0b0011010, .litHuf54),
   (8, 0b00010001, .litHuf55), (10, 0b0000011000, .litHuf56), (9, 0b000010011, .litHuf57),
   (10, 0b0000010111, .litHuf58), (10, 0b0000010110, .litHuf59), (12, 0b000001000100, .litHuf5A),
   (9, 0b000010010, .litHuf5B), (12, 0b000001000011, .litHuf5C), (10, 0b0000010101, .litHuf5D),
   (13, 0b0000001100000, .litHuf5E), (9, 0b000010001, .litHuf5F)] : List (Nat × Nat × Instr)).all (agrees unitCoded) = true := by decide +kernel

set_option maxRecDepth 20000 in
theorem test_litHuf_patterns_3 :
  ([(13, 0b0000001011111, .litHuf60), (6, 0b011100, .litHuf61), (7, 0b0011001, .litHuf62),
   (7, 0b0011000, .litHuf63), (7, 0b0010111, .litHuf64), (6, 0b011011, .litHuf65),
   (7, 0b0010110, .litHuf66), (7, 0b0010101, .litHuf67), (7, 0b0010100, .litHuf68),
   (6, 0b011010, .litHuf69), (12, 0b000001000010, .litHuf6A), (8, 0b00010000, .litHuf6B),
   (6, 0b011001, .litHuf6C), (7, 0b0010011, .litHuf6D), (6, 0b011000, .litHuf6E),
   (6, 0b010111, .litHuf6F), (7, 0b0010010, .litHuf70), (11, 0b00000100110, .litHuf71),
   (6, 0b010110, .litHuf72), (6, 0b010101, .litHuf73), (6, 0b010100, .litHuf74),
   (6, 0b010011, .litHuf75), (9, 0b000010000, .litHuf76), (8, 0b00001111, .litHuf77),
   (9, 0b000001111, .litHuf78), (9, 0b000001110, .litHuf79), (11, 0b00000100101, .litHuf7A),
   (12, 0b000001000001, .litHuf7B), (12, 0b000001000000, .litHuf7C), (13, 0b0000001011110, .litHuf7D),
   (13, 0b0000001011101, .litHuf7E), (13, 0b0000001011100, .litHuf7F)] : List (Nat × Nat × Instr)).all (agrees unitCoded) = true := by decide +kernel

set_option maxRecDepth 20000 in
theorem test_litHuf_patterns_4 :
  ([(14, 0b00000001001000, .litHuf80), (14, 0b00000001000111, .litHuf81), (14, 0b00000001000110, .litHuf82),
   (14, 0b00000001000101, .litHuf83), (14, 0b00000001000100, .litHuf84), (14, 0b00000001000011, .litHuf85),
   (14, 0b00000001000010, .litHuf86), (14, 0b00000001000001, .litHuf87), (14, 0b00000001000000, .litHuf88),
   (14, 0b00000000111111, .litHuf89), (14, 0b00000000111110, .litHuf8A), (14, 0b00000000111101, .litHuf8B),
   (14, 0b00000000111100, .litHuf8C), (14, 0b00000000111011, .litHuf8D), (14, 0b00000000111010, .litHuf8E),
   (14, 0b00000000111001, .litHuf8F), (14, 0b00000000111000, .litHuf90), (14, 0b00000000110111, .litHuf91),
   (14, 0b00000000110110, .litHuf92), (14, 0b00000000110101, .litHuf93), (14, 0b00000000110100, .litHuf94),
   (14, 0b00000000110011, .litHuf95), (14, 0b00000000110010, .litHuf96), (14, 0b00000000110001, .litHuf97),
   (14, 0b00000000110000, .litHuf98), (14, 0b00000000101111, .litHuf99), (14, 0b00000000101110, .litHuf9A),
   (14, 0b00000000101101, .litHuf9B), (14, 0b00000000101100, .litHuf9C), (14, 0b00000000101011, .litHuf9D),
   (14, 0b00000000101010, .litHuf9E), (14, 0b00000000101001, .litHuf9F)] : List (Nat × Nat × Instr)).all (agrees unitCoded) = true := by decide +kernel

set_option maxRecDepth 20000 in
theorem test_litHuf_patterns_5 :
  ([(14, 0b00000000101000, .litHufA0), (14, 0b00000000100111, .litHufA1), (14, 0b00000000100110, .litHufA2),
   (14, 0b00000000100101, .litHufA3), (14, 0b00000000100100, .litHufA4), (14, 0b00000000100011, .litHufA5),
   (14, 0b00000000100010, .litHufA6), (14, 0b00000000100001, .litHufA7), (14, 0b00000000100000, .litHufA8),
   (14, 0b00000000011111, .litHufA9), (14, 0b00000000011110, .litHufAA), (14, 0b00000000011101, .litHufAB),
   (14, 0b00000000011100, .litHufAC), (14, 0b00000000011011, .litHufAD), (14, 0b00000000011010, .litHufAE),
   (14, 0b00000000011001, .litHufAF), (13, 0b0000001011011, .litHufB0), (13, 0b0000001011010, .litHufB1),
   (13, 0b0000001011001, .litHufB2), (13, 0b0000001011000, .litHufB3), (13, 0b0000001010111, .litHufB4),
   (13, 0b0000001010110, .litHufB5), (13, 0b0000001010101, .litHufB6), (13, 0b0000001010100, .litHufB7),
   (13, 0b0000001010011, .litHufB8), (13, 0b0000001010010, .litHufB9), (13, 0b0000001010001, .litHufBA),
   (13, 0b0000001010000, .litHufBB), (13, 0b0000001001111, .litHufBC), (13, 0b0000001001110, .litHufBD),
   (13, 0b0000001001101, .litHufBE), (13, 0b0000001001100, .litHufBF)] : List (Nat × Nat × Instr)).all (agrees unitCoded) = true := by decide +kernel

set_option maxRecDepth 20000 in
theorem test_litHuf_patterns_6 :
  ([(13, 0b0000001001011, .litHufC0), (13, 0b0000001001010, .litHufC1), (13, 0b0000001001001, .litHufC2),
   (13, 0b0000001001000, .litHufC3), (13, 0b0000001000111, .litHufC4), (13, 0b0000001000110, .litHufC5),
   (13, 0b0000001000101, .litHufC6), (13, 0b0000001000100, .litHufC7), (13, 0b0000001000011, .litHufC8),
   (13, 0b0000001000010, .litHufC9), (13, 0b0000001000001, .litHufCA), (13, 0b0000001000000, .litHufCB),
   (13, 0b0000000111111, .litHufCC), (13, 0b0000000111110, .litHufCD), (13, 0b0000000111101, .litHufCE),
   (13, 0b0000000111100, .litHufCF), (13, 0b0000000111011, .litHufD0), (13, 0b0000000111010, .litHufD1),
   (13, 0b0000000111001, .litHufD2), (13, 0b0000000111000, .litHufD3), (13, 0b0000000110111, .litHufD4),
   (13, 0b0000000110110, .litHufD5), (13, 0b0000000110101, .litHufD6), (13, 0b0000000110100, .litHufD7),
   (13, 0b0000000110011, .litHufD8), (13, 0b0000000110010, .litHufD9), (13, 0b0000000110001, .litHufDA),
   (13, 0b0000000110000, .litHufDB), (13, 0b0000000101111, .litHufDC), (13, 0b0000000101110, .litHufDD),
   (13, 0b0000000101101, .litHufDE), (13, 0b0000000101100, .litHufDF)] : List (Nat × Nat × Instr)).all (agrees unitCoded) = true := by decide +kernel

set_option maxRecDepth 20000 in
theorem test_litHuf_patterns_7 :
  ([(14, 0b00000000011000, .litHufE0), (13, 0b0000000101011, .litHufE1), (14, 0b00000000010111, .litHufE2),
   (14, 0b00000000010110, .litHufE3), (14, 0b00000000010101, .litHufE4), (13, 0b0000000101010, .litHufE5),
   (14, 0b00000000010100, .litHufE6), (14, 0b00000000010011, .litHufE7), (14, 0b00000000010010, .litHufE8),
   (13, 0b0000000101001, .litHufE9), (14, 0b00000000010001, .litHufEA), (14, 0b00000000010000, .litHufEB),
   (14, 0b00000000001111, .litHufEC), (14, 0b00000000001110, .litHufED), (13, 0b0000000101000, .litHufEE),
   (14, 0b00000000001101, .litHufEF), (14, 0b00000000001100, .litHufF0), (14, 0b00000000001011, .litHufF1),
   (13, 0b0000000100111, .litHufF2), (13, 0b0000000100110, .litHufF3), (13, 0b0000000100101, .litHufF4),
   (14, 0b00000000001010, .litHufF5), (14, 0b00000000001001, .litHufF6), (14, 0b00000000001000, .litHufF7),
   (14, 0b00000000000111, .litHufF8), (14, 0b00000000000110, .litHufF9), (14, 0b00000000000101, .litHufFA),
   (14, 0b00000000000100, .litHufFB), (14, 0b00000000000011, .litHufFC), (14, 0b00000000000010, .litHufFD),
   (14, 0b00000000000001, .litHufFE), (14, 0b00000000000000, .litHufFF)] : List (Nat × Nat × Instr)).all (agrees unitCoded) = true := by decide +kernel

theorem test_match_and_end_patterns :
  ([(3, 0b111, .matchL0), (4, 0b1101, .matchL1), (4, 0b1100, .matchL2),
   (4, 0b1011, .matchL3), (5, 0b10101, .matchL4), (5, 0b10100, .matchL5),
   (5, 0b10011, .matchL6), (6, 0b100101, .matchL7), (7, 0b1001001, .matchL8 1),
   (8, 0b10001101, .matchL9 2), (9, 0b100010001, .matchL10 4), (11, 0b10000110001, .matchL11 8),
   (12, 0b100001000001, .matchL12 16), (13, 0b1000001000001, .matchL13 32), (15, 0b100000010000001, .matchL14 64),
   (16, 0b1000000000000001, .matchL15 128), (16, 0b1000000011111111, .endStream)] : List (Nat × Nat × Instr)).all
    (fun row => agrees unitCoded row && agrees unitRaw row) = true := by decide +kernel

theorem test_dist_patterns :
  ([(2, 0b11, .distD0 0), (4, 0b1011, .distD1 0), (4, 0b1010, .distD2 0), (5, 0b10011, .distD3 0),
   (5, 0b10010, .distD4 0), (5, 0b10001, .distD5 0), (5, 0b10000, .distD6 0), (6, 0b011111, .distD7 0),
   (6, 0b011110, .distD8 0), (6, 0b011101, .distD9 0), (6, 0b011100, .distD10 0), (6, 0b011011, .distD11 0),
   (6, 0b011010, .distD12 0), (6, 0b011001, .distD13 0), (6, 0b011000, .distD14 0), (6, 0b010111, .distD15 0),
   (6, 0b010110, .distD16 0), (6, 0b010101, .distD17 0), (6, 0b010100, .distD18 0), (6, 0b010011, .distD19 0),
   (6, 0b010010, .distD20 0), (6, 0b010001, .distD21 0), (7, 0b0100001, .distD22 0), (7, 0b0100000, .distD23 0),
   (7, 0b0011111, .distD24 0), (7, 0b0011110, .distD25 0), (7, 0b0011101, .distD26 0), (7, 0b0011100, .distD27 0),
   (7, 0b0011011, .distD28 0), (7, 0b0011010, .distD29 0), (7, 0b0011001, .distD30 0), (7, 0b0011000, .distD31 0),
   (7, 0b0010111, .distD32 0), (7, 0b0010110, .distD33 0), (7, 0b0010101, .distD34 0), (7, 0b0010100, .distD35 0),
   (7, 0b0010011, .distD36 0), (7, 0b0010010, .distD37 0), (7, 0b0010001, .distD38 0), (7, 0b0010000, .distD39 0),
   (7, 0b0001111, .distD40 0), (7, 0b0001110, .distD41 0), (7, 0b0001101, .distD42 0), (7, 0b0001100, .distD43 0),
   (7, 0b0001011, .distD44 0), (7, 0b0001010, .distD45 0), (7, 0b0001001, .distD46 0), (7, 0b0001000, .distD47 0),
   (8, 0b00001111, .distD48 0), (8, 0b00001110, .distD49 0), (8, 0b00001101, .distD50 0), (8, 0b00001100, .distD51 0),
   (8, 0b00001011, .distD52 0), (8, 0b00001010, .distD53 0), (8, 0b00001001, .distD54 0), (8, 0b00001000, .distD55 0),
   (8, 0b00000111, .distD56 0), (8, 0b00000110, .distD57 0), (8, 0b00000101, .distD58 0), (8, 0b00000100, .distD59 0),
   (8, 0b00000011, .distD60 0), (8, 0b00000010, .distD61 0), (8, 0b00000001, .distD62 0), (8, 0b00000000, .distD63 0)] : List (Nat × Nat × Instr)).all (agrees distance4) = true := by decide +kernel

/-- R73: flag 0, then the byte 0x5A least significant bit first, `0 01011010` (95_test_vectors.md V-L2). -/
theorem test_litRaw_pattern : agrees unitRaw (9, 0b001011010, .litRaw 0x5A) = true := by decide +kernel

/-- R71: the header bytes 00 06, each least significant bit first. -/
theorem test_hdr_pattern : agrees .header (16, 0b0000000001100000, .hdr 0 6) = true := by decide +kernel

end Sys2Proof.Tests
end

/-!
PROOF. Raw fields of the bit stream (00_scope.md R11, 20_memory.md R52): how they concatenate, split and stand in the
bytes of the input.
-/
namespace Sys2Proof.Machine

/-- The total list access inside the list (core Lean states it through `getElem?` only). -/
theorem getD_of_lt {α : Type} {l : List α} {i : Nat} (d : α) (h : i < l.length) : l.getD i d = l[i] := by
  rw [List.getD_eq_getElem?_getD, List.getElem?_eq_getElem h, Option.getD_some]

theorem natOfBits_lt (bs : List Bool) : natOfBits bs < 2 ^ bs.length := by
  induction bs with
  | nil => decide
  | cons b bs ih =>
    have := b.toNat_lt
    simp only [natOfBits, List.length_cons, Nat.pow_succ]
    omega

theorem natOfBits_append (as bs : List Bool) :
    natOfBits (as ++ bs) = natOfBits as + 2 ^ as.length * natOfBits bs := by
  induction as with
  | nil => simp [natOfBits]
  | cons a as ih =>
    rw [List.cons_append, natOfBits, natOfBits, ih, List.length_cons, Nat.pow_succ, Nat.mul_add, Nat.add_assoc,
      ← Nat.mul_assoc, Nat.mul_comm 2 (2 ^ as.length)]

theorem natOfBits_rawBits (n v : Nat) : natOfBits (rawBits n v) = v % 2 ^ n := by
  induction n generalizing v with
  | zero => simp [rawBits, natOfBits, Nat.mod_one]
  | succ n ih =>
    have htail : (List.range n).map (v.testBit ∘ Nat.succ) = rawBits n (v / 2) := by
      simp [rawBits, Function.comp_def, Nat.testBit_succ]
    have hhead : (v.testBit 0).toNat = v % 2 := by
      rw [Nat.testBit_zero]
      rcases Nat.mod_two_eq_zero_or_one v with h | h <;> simp [h]
    have hsplit : v % 2 ^ (n + 1) = v % 2 + 2 * (v / 2 % 2 ^ n) := by
      rw [Nat.pow_succ, Nat.mul_comm, Nat.mod_mul]
    rw [hsplit, ← ih, ← htail, ← hhead]
    simp [rawBits, List.range_succ_eq_map, natOfBits]

@[simp] theorem streamField_zero (inp : List Byte) (p : Nat) : streamField inp p 0 = 0 := rfl

/-- R101: a raw field is below `2 ^ n`. -/
theorem streamField_lt (inp : List Byte) (p n : Nat) : streamField inp p n < 2 ^ n := by
  simpa [streamField] using natOfBits_lt ((List.range n).map fun i => streamBit inp (p + i))

/-- Two fields that follow each other are one field, the first in the low bits. -/
theorem streamField_add (inp : List Byte) (p a b : Nat) :
    streamField inp p (a + b) = streamField inp p a + 2 ^ a * streamField inp (p + a) b := by
  simp [streamField, List.range_add, natOfBits_append, Function.comp_def, Nat.add_assoc]

theorem streamField_mod (inp : List Byte) (p a b : Nat) :
    streamField inp p (a + b) % 2 ^ a = streamField inp p a := by
  rw [streamField_add, Nat.add_mul_mod_self_left, Nat.mod_eq_of_lt (streamField_lt inp p a)]

theorem streamField_div (inp : List Byte) (p a b : Nat) :
    streamField inp p (a + b) / 2 ^ a = streamField inp (p + a) b := by
  rw [streamField_add, Nat.add_mul_div_left _ _ (Nat.two_pow_pos a), Nat.div_eq_of_lt (streamField_lt inp p a),
    Nat.zero_add]

/-- R11 and R51: eight stream bits from a byte boundary are the byte there. -/
theorem streamField_byte {inp : List Byte} {i : Nat} {b : Byte} (h : inp[i]? = some b) :
    streamField inp (8 * i) 8 = b.toNat := by
  have hbits : (List.range 8).map (fun j => streamBit inp (8 * i + j)) = rawBits 8 b.toNat := by
    refine List.map_congr_left fun j hj => ?_
    have hj : j < 8 := List.mem_range.mp hj
    have hdiv : (8 * i + j) / 8 = i := by omega
    have hmod : (8 * i + j) % 8 = j := by omega
    simp [streamBit, hdiv, hmod, List.getD, h]
  rw [streamField, hbits, natOfBits_rawBits, Nat.mod_eq_of_lt b.isLt]

end Sys2Proof.Machine

/-!
PROOF. The BitReader: its register form meets the abstract contract of `bits(n)` (40_bitreader.md R101 to R103).
-/
namespace Sys2Proof.Machine

/-- The reader holds the stream bits from its position on, however many. Between two requests it holds fewer than 8
(`BitReader.Agrees`); inside the refill loop of R102 it can hold more. -/
def BitReader.Holds (inp : List Byte) (r : BitReader) : Prop :=
  r.cnt ≤ 8 * r.cur ∧ r.cur ≤ inp.length ∧ r.acc = streamField inp r.bitpos r.cnt

theorem agrees_iff_holds {inp : List Byte} {r : BitReader} :
    BitReader.Agrees inp r ↔ r.cnt ≤ 7 ∧ BitReader.Holds inp r := Iff.rfl

theorem agrees_init (inp : List Byte) : BitReader.Agrees inp BitReader.init :=
  ⟨Nat.zero_le _, Nat.zero_le _, Nat.zero_le _, rfl⟩

theorem holds_bitpos_add_cnt {inp : List Byte} {r : BitReader} (h : BitReader.Holds inp r) :
    r.bitpos + r.cnt = 8 * r.cur := Nat.sub_add_cancel h.1

theorem agrees_bitpos_le {inp : List Byte} {r : BitReader} (h : BitReader.Agrees inp r) :
    r.bitpos ≤ 8 * inp.length := by
  obtain ⟨-, hle, hcur, hacc⟩ := h
  have := holds_bitpos_add_cnt ⟨hle, hcur, hacc⟩
  omega

/-- The reader after one turn of the refill loop (R102): a byte goes above the bits already held. -/
def BitReader.load (b : Byte) (r : BitReader) : BitReader :=
  { cur := r.cur + 1, acc := r.acc ||| (b.toNat <<< r.cnt), cnt := r.cnt + 8 }

theorem load_bitpos (b : Byte) (r : BitReader) : (r.load b).bitpos = r.bitpos := by
  simp only [BitReader.load, BitReader.bitpos]
  omega

theorem load_holds {inp : List Byte} {r : BitReader} {b : Byte} (h : BitReader.Holds inp r)
    (hb : inp[r.cur]? = some b) : BitReader.Holds inp (r.load b) := by
  have hsum := holds_bitpos_add_cnt h
  obtain ⟨hcnt, hcur, hacc⟩ := h
  have hlt : r.cur < inp.length := (List.getElem?_eq_some_iff.mp hb).1
  refine ⟨by simp only [BitReader.load]; omega, hlt, ?_⟩
  have hbyte : streamField inp (r.bitpos + r.cnt) 8 = b.toNat := by
    rw [hsum, streamField_byte hb]
  have hacclt : r.acc < 2 ^ r.cnt := hacc ▸ streamField_lt inp r.bitpos r.cnt
  calc r.acc ||| b.toNat <<< r.cnt
      = b.toNat <<< r.cnt + r.acc := by rw [Nat.or_comm, Nat.shiftLeft_add_eq_or_of_lt hacclt]
    _ = streamField inp r.bitpos r.cnt + 2 ^ r.cnt * streamField inp (r.bitpos + r.cnt) 8 := by
        rw [hbyte, ← hacc, Nat.shiftLeft_eq, Nat.mul_comm, Nat.add_comm]
    _ = streamField inp (r.load b).bitpos (r.load b).cnt := by
        rw [load_bitpos, ← streamField_add]; rfl

/-- The refill loop (R102, R103): with the fuel for `n` bits it ends with at least `n` bits held, at the same position,
or the input has no `n` bits there and it fails. -/
theorem refill_spec {inp : List Byte} {n fuel : Nat} {r : BitReader} (h : BitReader.Holds inp r)
    (hcnt : r.cnt ≤ n + 7) (hfuel : n ≤ r.cnt + 8 * fuel) :
    (8 * inp.length < r.bitpos + n ∧ refill inp n fuel r = .error (.raise .unexpectedEndOfInput)) ∨
    (r.bitpos + n ≤ 8 * inp.length ∧ ∃ q, refill inp n fuel r = .ok q ∧ BitReader.Holds inp q ∧
      q.bitpos = r.bitpos ∧ n ≤ q.cnt ∧ q.cnt ≤ n + 7) := by
  induction fuel generalizing r with
  | zero =>
    have hsum := holds_bitpos_add_cnt h
    have hcur := h.2.1
    exact .inr ⟨by omega, r, rfl, h, rfl, hfuel, hcnt⟩
  | succ fuel ih =>
    have hsum := holds_bitpos_add_cnt h
    have hcur := h.2.1
    by_cases hn : r.cnt < n
    · cases hb : inp[r.cur]? with
      | none =>
        have hend : inp.length ≤ r.cur := List.getElem?_eq_none_iff.mp hb
        exact .inl ⟨by omega, by simp [refill, hn, hb]⟩
      | some b =>
        have hstep : refill inp n (fuel + 1) r = refill inp n fuel (r.load b) := by
          simp [refill, hn, hb, BitReader.load]
        have hcnt' : (r.load b).cnt = r.cnt + 8 := rfl
        rw [hstep, ← load_bitpos b r]
        exact ih (load_holds h hb) (by omega) (by omega)
    · exact .inr ⟨by omega, r, by simp [refill, hn], h, rfl, by omega, hcnt⟩

/-- Delivering the low `n` of the bits held (R102). -/
theorem deliver_agrees {inp : List Byte} {n : Nat} {q : BitReader} (h : BitReader.Holds inp q) (hn : n ≤ q.cnt)
    (hcnt : q.cnt ≤ n + 7) :
    q.acc &&& (2 ^ n - 1) = streamField inp q.bitpos n ∧
    (BitReader.mk q.cur (q.acc >>> n) (q.cnt - n)).bitpos = q.bitpos + n ∧
    BitReader.Agrees inp (BitReader.mk q.cur (q.acc >>> n) (q.cnt - n)) := by
  have hsum := holds_bitpos_add_cnt h
  obtain ⟨hle, hcur, hacc⟩ := h
  obtain ⟨m, hm⟩ : ∃ m, q.cnt = n + m := ⟨q.cnt - n, by omega⟩
  have hpos : (BitReader.mk q.cur (q.acc >>> n) (q.cnt - n)).bitpos = q.bitpos + n := by
    simp only [BitReader.bitpos] at hsum ⊢
    omega
  have hrest : q.cnt - n = m := by omega
  refine ⟨?_, hpos, by simp only; omega, by simp only; omega, hcur, ?_⟩
  · rw [Nat.and_two_pow_sub_one_eq_mod, hacc, hm, streamField_mod]
  · rw [hpos, Nat.shiftRight_eq_div_pow, hacc, hm, streamField_div, Nat.add_sub_cancel_left]

/-- R101 and R103: `bits(n)` from an agreeing reader gives the next `n` bits of the stream and an agreeing reader behind
them, or fails where the input has no `n` bits left. -/
theorem bits_of_agrees {inp : List Byte} {r : BitReader} {n : Nat} (h : BitReader.Agrees inp r) (hn : n ≤ 16) :
    (8 * inp.length < r.bitpos + n ∧ bits inp n r = .error (.raise .unexpectedEndOfInput)) ∨
    (r.bitpos + n ≤ 8 * inp.length ∧ ∃ r', bits inp n r = .ok (streamField inp r.bitpos n, r') ∧
      r'.bitpos = r.bitpos + n ∧ BitReader.Agrees inp r') := by
  obtain ⟨hcnt, hholds⟩ := agrees_iff_holds.mp h
  have hmax : ¬ bitsMax < n := by simpa [bitsMax] using hn
  obtain ⟨hend, he⟩ | ⟨hfit, q, hq, hqh, hqpos, hqn, hq7⟩ :=
    refill_spec (fuel := 2) hholds (by omega : r.cnt ≤ n + 7) (by omega)
  · exact .inl ⟨hend, by simp [bits, hmax, he]⟩
  · obtain ⟨hval, hpos, hagr⟩ := deliver_agrees hqh hqn hq7
    refine .inr ⟨hfit, ⟨q.cur, q.acc >>> n, q.cnt - n⟩, ?_, hqpos ▸ hpos, hagr⟩
    simp [bits, hmax, hq, hval, hqpos]

end Sys2Proof.Machine

/-!
PROOF. Reading alike: a read of the machine from a reader, against a read of the reference decode (43_decoder.md R175)
from a bit position.
-/
namespace Sys2Proof.Machine

/-- The machine's read `x` and the reference's read `y` take the same failure, or both give a value, the values related
by `R`, and the machine's reader then agrees with the stream and stands at the reference's position, `p` or later. -/
def ReadsAs {α β : Type} (inp : List Byte) (p : Nat) (R : α → β → Prop) (x : Except Stop (α × BitReader))
    (y : Except DecodeError (β × Nat)) : Prop :=
  (∃ e, x = .error (.raise e) ∧ y = .error e) ∨
  (∃ a b r, x = .ok (a, r) ∧ y = .ok (b, r.bitpos) ∧ R a b ∧ p ≤ r.bitpos ∧ BitReader.Agrees inp r)

namespace ReadsAs

variable {α β α' β' : Type} {inp : List Byte} {p q : Nat} {R : α → β → Prop} {R' : α' → β' → Prop}
  {x : Except Stop (α × BitReader)} {y : Except DecodeError (β × Nat)}

theorem fails (e : DecodeError) : ReadsAs inp p R (.error (.raise e)) (.error e) := .inl ⟨e, rfl, rfl⟩

theorem gives {a : α} {b : β} {r : BitReader} (hR : R a b) (hp : p ≤ r.bitpos) (h : BitReader.Agrees inp r) :
    ReadsAs inp p R (.ok (a, r)) (.ok (b, r.bitpos)) := .inr ⟨a, b, r, rfl, rfl, hR, hp, h⟩

/-- Two reads in a row: the second starts at the same position on both sides. -/
theorem bind {f : α × BitReader → Except Stop (α' × BitReader)} {g : β × Nat → Except DecodeError (β' × Nat)}
    (h : ReadsAs inp p R x y)
    (hfg : ∀ a b r, R a b → p ≤ r.bitpos → BitReader.Agrees inp r → ReadsAs inp q R' (f (a, r)) (g (b, r.bitpos))) :
    ReadsAs inp q R' (x >>= f) (y >>= g) := by
  obtain ⟨e, rfl, rfl⟩ | ⟨a, b, r, rfl, rfl, hR, hp, hr⟩ := h
  · exact fails e
  · exact hfg a b r hR hp hr

theorem mono {S : α → β → Prop} (h : ReadsAs inp p R x y) (hq : q ≤ p) (hRS : ∀ a b, R a b → S a b) :
    ReadsAs inp q S x y := by
  obtain ⟨e, rfl, rfl⟩ | ⟨a, b, r, rfl, rfl, hR, hp, hr⟩ := h
  · exact fails e
  · exact gives (hRS a b hR) (Nat.le_trans hq hp) hr

end ReadsAs

/-- R101: the machine's `bits(n)` reads what the reference's `bits(n)` reads, and moves `n` bits on. -/
theorem bits_readsAs_take {inp : List Byte} {r : BitReader} {n : Nat} (h : BitReader.Agrees inp r) (hn : n ≤ 16) :
    ReadsAs inp (r.bitpos + n) (fun v w => v = w ∧ w < 2 ^ n) (bits inp n r) (Reference.take inp n r.bitpos) := by
  obtain ⟨hend, he⟩ | ⟨hfit, r', hok, hpos, hagr⟩ := bits_of_agrees h hn
  · rw [he, Reference.take, if_pos hend]
    exact .fails _
  · rw [hok, Reference.take, if_neg (by omega), ← hpos]
    exact .gives ⟨rfl, streamField_lt inp r.bitpos n⟩ (Nat.le_refl _) hagr

end Sys2Proof.Machine

/-!
PROOF. Tables and symbol decode (41_huffman.md R121 to R123): what the two arrays of a built table hold, and that the
loop over them reads what the reference reads from the code lengths alone.
-/
namespace Sys2Proof.Machine

theorem mem_symbolsOf {lens : List Nat} {L s : Nat} :
    s ∈ symbolsOf lens L ↔ s < lens.length ∧ lens.getD s 0 = L := by
  simp [symbolsOf]

/-- R121: `count[L]` is the number of symbols that R122 lists for `L`. -/
theorem length_symbolsOf (lens : List Nat) (L : Nat) : (symbolsOf lens L).length = countOf lens L := by
  have hlens : (List.range lens.length).map (fun s => lens.getD s 0) = lens :=
    List.ext_getElem (by simp) fun i _ h => by simp [List.getD, h]
  calc (symbolsOf lens L).length
      = (List.range lens.length).countP ((· == L) ∘ fun s => lens.getD s 0) := by
        rw [symbolsOf, List.countP_eq_length_filter]; rfl
    _ = ((List.range lens.length).map fun s => lens.getD s 0).countP (· == L) := List.countP_map.symm
    _ = countOf lens L := by rw [hlens]; rfl

theorem buildTable_count (lens : List Nat) :
    (buildTable lens).count.toList = (List.range' 1 13).map (countOf lens) := by
  simp [buildTable, Vector.ofFn, List.ofFn_succ, List.range'_succ]

theorem buildTable_symbol (lens : List Nat) :
    (buildTable lens).symbol = (List.range' 1 13).flatMap (symbolsOf lens) := by
  simp [buildTable, List.range_succ_eq_map, List.range'_succ]

/-- The next bit of a code enters inverted at bit 0 (R123, 90_conflicts.md C1). -/
theorem two_mul_or_inverted_bit {b : Nat} (code : Nat) (hb : b < 2) :
    (2 * code) ||| (b ^^^ 1) = 2 * code + (1 - b) := by
  obtain rfl | rfl : b = 0 ∨ b = 1 := by omega
  · exact Nat.two_pow_add_eq_or_of_lt (i := 1) (by decide) code |>.symm
  · simp

/-- R123, the loop for the lengths `L` to `L + left - 1`, behind the symbols `pre` of the shorter codes: the machine's
working values are the reference's. A code below `first` cannot come, since no shorter code matched. -/
theorem decodeLoop_readsAs_symbolLoop {inp : List Byte} (lens : List Nat) {left L : Nat} {pre : List Nat}
    {code first : Nat} {r : BitReader} (hfirst : first ≤ 2 * code) (h : BitReader.Agrees inp r) :
    ReadsAs inp r.bitpos (fun s t => s = t ∧ t < lens.length)
      (decodeLoop inp (pre ++ (List.range' L left).flatMap (symbolsOf lens)) ((List.range' L left).map (countOf lens))
        (2 * code) first pre.length r)
      (Reference.symbolLoop inp lens left L code first r.bitpos) := by
  induction left generalizing L pre code first r with
  | zero => exact .fails _
  | succ left ih =>
    rw [List.range'_succ, List.map_cons, List.flatMap_cons, decodeLoop, Reference.symbolLoop]
    obtain ⟨e, hx, hy⟩ | ⟨b, _, r', hx, hy, ⟨rfl, hb⟩, hpos, hr'⟩ := bits_readsAs_take h (n := 1) (by decide)
    · rw [hx, hy]
      exact .fails e
    · rw [hx, hy]
      simp only [two_mul_or_inverted_bit code hb]
      have hle : r.bitpos ≤ r'.bitpos := by omega
      generalize hcode : 2 * code + (1 - b) = code'
      by_cases hlt : code' < first + countOf lens L
      · have hidx : code' - first < (symbolsOf lens L).length := by rw [length_symbolsOf]; omega
        have hsym := mem_symbolsOf.mp (List.getElem_mem hidx)
        simp only [hlt, if_true, List.getElem?_append_right (Nat.le_add_right _ _), Nat.add_sub_cancel_left,
          List.getElem?_append_left hidx, List.getElem?_eq_getElem hidx, getD_of_lt 0 hidx]
        exact .gives ⟨rfl, hsym.1⟩ hle hr'
      · simp only [hlt, if_false, Nat.shiftLeft_eq, Nat.pow_one, Nat.mul_comm _ 2]
        have hnext := ih (L := L + 1) (pre := pre ++ symbolsOf lens L) (code := code')
          (first := 2 * (first + countOf lens L)) (by omega) hr'
        rw [List.length_append, length_symbolsOf, List.append_assoc] at hnext
        exact hnext.mono hle fun _ _ => id

/-- R123: decoding a symbol from the built table is the reference's reading of the code lengths. -/
theorem decodeSymbol_readsAs_symbol {inp : List Byte} (lens : List Nat) {r : BitReader}
    (h : BitReader.Agrees inp r) :
    ReadsAs inp r.bitpos (fun s t => s = t ∧ t < lens.length) (decodeSymbol (buildTable lens) inp r)
      (Reference.symbol lens inp r.bitpos) := by
  rw [decodeSymbol, buildTable_count, buildTable_symbol]
  exact decodeLoop_readsAs_symbolLoop lens (left := 13) (L := 1) (pre := []) (code := 0) (Nat.zero_le _) h

/-- The symbol of an alphabet that the table does not exceed (00_scope.md R8). -/
theorem readSymbol_readsAs_symbol {inp : List Byte} {lens : List Nat} {n : Nat} {r : BitReader}
    (hn : lens.length ≤ n) (h : BitReader.Agrees inp r) :
    ReadsAs inp r.bitpos (fun s t => s.val = t) (readSymbol n (some (buildTable lens)) inp r)
      (Reference.symbol lens inp r.bitpos) := by
  obtain ⟨e, hx, hy⟩ | ⟨s, t, r', hx, hy, ⟨rfl, hs⟩, hpos, hr'⟩ := decodeSymbol_readsAs_symbol lens h
  · simp only [readSymbol, hx, hy]
    exact .fails e
  · simp only [readSymbol, hx, hy, dif_pos (Nat.lt_of_lt_of_le hs hn)]
    exact .gives rfl hpos hr'

end Sys2Proof.Machine

/-!
PROOF. The window against the output (10_state.md R32, 42_window.md R141 to R146): a push keeps them in agreement,
`read_back(d)` is the byte `d` back in the output, and the copy of R170 appends what the reference's copy on the output
alone appends.
-/
namespace Sys2Proof.Machine

theorem push_pos_val (b : Byte) (w : SlidingWindow) : (push b w).pos.val = (w.pos.val + 1) % 4096 := rfl

theorem push_wrapped (b : Byte) (w : SlidingWindow) :
    (push b w).wrapped = (w.wrapped || (w.pos.val + 1) % 4096 == 0) := rfl

theorem read_push_pos (b : Byte) (w : SlidingWindow) : Memory.read (push b w).win w.pos.val = some b :=
  read_write_same _ _ _

theorem read_push_other {w : SlidingWindow} {a : Nat} (b : Byte) (h : a ≠ w.pos.val) :
    Memory.read (push b w).win a = Memory.read w.win a := read_write_other b h

/-- R59 (a): after a push, `read_back(1)` reads the cell just written. -/
theorem readBackAddr_push_one (b : Byte) (w : SlidingWindow) : readBackAddr (push b w).pos 1 = w.pos.val := by
  have := w.pos.isLt
  simp only [readBackAddr, push_pos_val]
  omega

/-- R59 (a): after a push, every older byte is one further back, and its cell is not the one just written. -/
theorem readBackAddr_push_succ {d : Nat} (b : Byte) (w : SlidingWindow) (h1 : 1 ≤ d) (h2 : d ≤ 4095) :
    readBackAddr (push b w).pos (d + 1) = readBackAddr w.pos d ∧ readBackAddr w.pos d ≠ w.pos.val := by
  have := w.pos.isLt
  simp only [readBackAddr, push_pos_val]
  omega

theorem historyAgrees_init : HistoryAgrees [] SlidingWindow.init :=
  ⟨rfl, rfl, fun d h1 h2 => absurd (Nat.le_trans h1 h2) (by decide), fun a => by simp [SlidingWindow.init, Memory.read]⟩

/-- R32: appending a byte to the output and pushing it keeps window and output in agreement. -/
theorem push_keeps_historyAgrees {out : List Byte} {w : SlidingWindow} (b : Byte) (h : HistoryAgrees out w) :
    HistoryAgrees (out ++ [b]) (push b w) := by
  obtain ⟨hpos, hwrap, hread, hsome⟩ := h
  have hlen : (out ++ [b]).length = out.length + 1 := by simp
  refine ⟨?_, ?_, ?_, ?_⟩
  · rw [push_pos_val, hpos, hlen]
    omega
  · rw [push_wrapped, hwrap, hpos, hlen, Bool.eq_iff_iff]
    simp only [Bool.or_eq_true, decide_eq_true_eq, beq_iff_eq]
    omega
  · intro d h1 h2
    rw [hlen] at h2 ⊢
    obtain rfl | ⟨d, rfl, hd⟩ : d = 1 ∨ ∃ d', d = d' + 1 ∧ 1 ≤ d' := by
      rcases Nat.lt_or_ge 1 d with h | h
      · exact .inr ⟨d - 1, by omega, by omega⟩
      · exact .inl (by omega)
    · rw [readBackAddr_push_one, read_push_pos, Nat.add_sub_cancel, List.getElem?_concat_length]
    · obtain ⟨haddr, hne⟩ := readBackAddr_push_succ b w hd (by omega)
      rw [haddr, read_push_other b hne, hread d hd (by omega), List.getElem?_append_left (by omega)]
      congr 1
      omega
  · intro a
    rw [hlen]
    by_cases ha : a = w.pos.val
    · rw [ha, read_push_pos, hpos]
      exact (decide_eq_true (by omega)).symm
    · rw [read_push_other b ha, hsome a]
      simp only [decide_eq_decide]
      omega

/-- R143 where window and output agree: the history reaches as far back as the output. -/
theorem distanceTooFar_iff {out : List Byte} {w : SlidingWindow} {d : Nat} (h : HistoryAgrees out w) (hd : d ≤ 4096) :
    distanceTooFar w d = true ↔ out.length < d := by
  obtain ⟨hpos, hwrap, -, -⟩ := h
  simp only [distanceTooFar, hwrap, hpos, Bool.and_eq_true, Bool.not_eq_true', decide_eq_true_eq,
    decide_eq_false_iff_not]
  omega

/-- R146: where window and output agree, `read_back(d)` gives the byte `d` back in the output. -/
theorem readBack_of_historyAgrees {out : List Byte} {w : SlidingWindow} {d : Nat} (h : HistoryAgrees out w)
    (h1 : 1 ≤ d) (h2 : d ≤ min out.length 4096) : readBack d w = .ok (out.getD (out.length - d) 0) := by
  have hnear : distanceTooFar w d = false := by
    rw [← Bool.not_eq_true, distanceTooFar_iff h (by omega)]
    omega
  have hdom : ¬ (d = 0 ∨ 4096 < d) := by omega
  have hcell := h.2.2.1 d h1 h2
  have hlt : out.length - d < out.length := by omega
  rw [List.getElem?_eq_getElem hlt] at hcell
  rw [getD_of_lt 0 hlt]
  simp [readBack, hnear, hdom, hcell]

/-- R170: the copy appends what the reference's copy appends, and keeps window and output in agreement. -/
theorem copyBytes_eq_copy {d n : Nat} {s : State} (h : HistoryAgrees s.out s.sw) (h1 : 1 ≤ d)
    (h2 : d ≤ min s.out.length 4096) :
    ∃ sw, copyBytes d n s = .next { s with out := Reference.copy d n s.out, sw := sw } ∧
      HistoryAgrees (Reference.copy d n s.out) sw := by
  induction n generalizing s with
  | zero => exact ⟨s.sw, rfl, h⟩
  | succ n ih =>
    rw [copyBytes_succ_ok (readBack_of_historyAgrees h h1 h2), Reference.copy]
    exact ih (push_keeps_historyAgrees _ h) (by rw [emit_out, List.length_append]; omega)

/-- R168 to R170: a distance row inside a match, where window and output agree, fails or copies. -/
theorem takeDistance_eq_copy {dsym : Fin 64} {x n d : Nat} {s : State} (hn : s.matchLen = some n)
    (h : HistoryAgrees s.out s.sw) (hd : distanceOf dsym (distanceExtra n s.dictBits) x = d) (hmax : d ≤ 4096) :
    (s.out.length < d ∧ takeDistance dsym x s = .next (raise .corruptStream s)) ∨
    (d ≤ s.out.length ∧ ∃ sw, takeDistance dsym x s =
        .next { s with matchLen := none, out := Reference.copy d n s.out, sw := sw } ∧
      HistoryAgrees (Reference.copy d n s.out) sw) := by
  have hpos : 1 ≤ d := hd ▸ Nat.le_add_left 1 _
  by_cases hfar : distanceTooFar s.sw d = true
  · exact .inl ⟨(distanceTooFar_iff h hmax).mp hfar, by simp [takeDistance, hn, hd, hfar]⟩
  · have hle : d ≤ s.out.length := by rw [distanceTooFar_iff h hmax] at hfar; omega
    obtain ⟨sw, hcopy, hsw⟩ := copyBytes_eq_copy (n := n) (s := { s with matchLen := none }) h hpos
      (Nat.le_min.mpr ⟨hle, hmax⟩)
    exact .inr ⟨hle, sw, by simpa [takeDistance, hn, hd, hfar] using hcopy, hsw⟩

end Sys2Proof.Machine

/-!
PROOF. The default table parameters (00_scope.md R6, R8; 41_huffman.md R126).
-/
namespace Sys2Proof.Machine

theorem length_expand_litlenSpec : (expand litlenSpec).length = 256 := by decide +kernel

theorem length_expand_lenlenSpec : (expand lenlenSpec).length = 16 := by decide

theorem length_expand_distlenSpec : (expand distlenSpec).length = 64 := by decide

theorem kraftSum_litlenSpec : kraftSum (expand litlenSpec) = 2 ^ 13 := by decide +kernel

theorem kraftSum_lenlenSpec : kraftSum (expand lenlenSpec) = 2 ^ 13 := by decide

theorem kraftSum_distlenSpec : kraftSum (expand distlenSpec) = 2 ^ 13 := by decide

/-- Settles O12: each clause is evaluated on the 98, 6 and 7 bytes of R6. -/
theorem defaultSpecsWellFormedAndComplete : Obligations.DefaultSpecsWellFormedAndComplete :=
  ⟨wfParams_default, length_expand_litlenSpec, length_expand_lenlenSpec, length_expand_distlenSpec,
    kraftSum_litlenSpec, kraftSum_lenlenSpec, kraftSum_distlenSpec⟩

end Sys2Proof.Machine

/-!
PROOF. The row of a shape has that shape, so a step runs the shape it read (43_decoder.md R160).
-/
namespace Sys2Proof.Machine

theorem litHufRow_form (b : BitVec 8) : (litHufRow b).form = .litHuf b := by
  revert b
  decide

theorem distRow_form (dsym : Fin 64) (x : Nat) : (distRow dsym x).form = .matchDist dsym x := by
  obtain ⟨i, hi⟩ := dsym
  iterate 64 (obtain _ | i := i; · rfl)
  omega

/-- Rows 0 to 7 have no extra bits, rows 8 to 15 have them in a field of their width. -/
theorem matchRow_form {sym : Fin 16} {x : Nat} (h : x < 2 ^ lengthExtra sym) :
    (matchRow sym x).form = .matchLength sym x := by
  obtain ⟨i, hi⟩ := sym
  iterate 8 (obtain _ | i := i; · exact congrArg (Form.matchLength _) (Nat.lt_one_iff.mp h).symm)
  iterate 8 (obtain _ | i := i; · exact congrArg (Form.matchLength _) (Nat.mod_eq_of_lt h))
  omega

/-- The instruction of a shape has the shape, unless the extra bits of a length are too wide for its row. -/
theorem toInstr_form {f : Form} (h : ∀ sym x, f = .matchLength sym x → x < 2 ^ lengthExtra sym) :
    f.toInstr.form = f := by
  cases f with
  | hdr l k => rfl
  | litRaw b => rfl
  | litHuf b => exact litHufRow_form b
  | matchLength sym x => exact matchRow_form (h sym x rfl)
  | endStream => rfl
  | matchDist dsym x => exact distRow_form dsym x

/-- The extra bits of a length that was read fit its row (R166). -/
theorem readForm_xlen_lt {ctx : Context} {inp : List Byte} {r r' : BitReader} {sym : Fin 16} {x : Nat}
    (h : readForm ctx inp r = .ok (.matchLength sym x, r')) : x < 2 ^ lengthExtra sym := by
  have hok := readForm_ok h
  cases ctx with
  | header => simp at hok
  | distance k T => simp at hok
  | unit lit T L =>
    simp only [Form.matchLength.injEq, reduceCtorEq, and_false, or_self, exists_false, false_or] at hok
    obtain ⟨_, _, ⟨rfl, rfl⟩, -, hx⟩ := hok
    exact hx

theorem step_eq_runNext {s : State} (h : s.running = true) : step s = runNext s := by
  cases hp : s.phase <;> simp_all [State.running, step]

/-- A step of a running decoder runs the shape that its bits are. -/
theorem step_of_readForm {s : State} {f : Form} {r : BitReader} (hs : s.running = true)
    (h : readForm s.context s.inp s.br = .ok (f, r)) : step s = execForm f (s.advance r) := by
  have hform : f.toInstr.form = f := toInstr_form fun sym x hf => readForm_xlen_lt (hf ▸ h)
  rw [step_eq_runNext hs, runNext, fetch, decode, h]
  simp only [exec_eq_execForm, hform]

/-- A step of a running decoder takes the failure of its reading. -/
theorem step_of_readForm_error {s : State} {e : DecodeError} (hs : s.running = true)
    (h : readForm s.context s.inp s.br = .error (.raise e)) : step s = .next (raise e s) := by
  rw [step_eq_runNext hs, runNext, fetch, decode, h]
  rfl

end Sys2Proof.Machine

/-!
PROOF. The reference decode (43_decoder.md R175) cut where the machine's steps are: the header, the head of a unit (a
literal, or the length of a match), the distance of a match.
-/
namespace Sys2Proof.Reference

open Sys2Proof.Machine

/-- The two header bytes, the first one checked before the second is read (R161, D9). -/
def header (inp : List Byte) (pos : Nat) : Except DecodeError ((Nat × Nat) × Nat) := do
  let (v0, pos) ← take inp 8 pos
  if v0 > 1 then throw .invalidHeader
  else
    let (v1, pos) ← take inp 8 pos
    return ((v0, v1), pos)

/-- What follows the header bytes: the check of the second one (R161), then the units. -/
def startUnits (P : Config.TableParams) (inp : List Byte) : (Nat × Nat) × Nat → Except DecodeError (List Byte)
  | ((lit, dictBits), pos) =>
    if dictBits < 4 ∨ dictBits > 6 then .error .invalidHeader
    else units P lit dictBits inp (8 * inp.length + 1) pos []

/-- What the head of a unit gives. -/
inductive Head where
  | literal (b : Byte)
  | length (n : Nat)

/-- The flag, and the literal or the match length behind it (R163 to R166). -/
def unitHead (P : Config.TableParams) (lit : Nat) (inp : List Byte) (pos : Nat) : Except DecodeError (Head × Nat) := do
  let (flag, pos) ← take inp 1 pos
  if flag = 0 then
    let (b, pos) ← if lit = 1 then symbol (expand P.litlen) inp pos else take inp 8 pos
    return (.literal (BitVec.ofNat 8 b), pos)
  else
    let (sym, pos) ← symbol (expand P.lenlen) inp pos
    let (xlen, pos) ← take inp (extra.getD sym 0) pos
    return (.length (base.getD sym 0 + xlen), pos)

/-- The distance of a match with `k` extra bits (R168). -/
def matchDistance (P : Config.TableParams) (k : Nat) (inp : List Byte) (pos : Nat) :
    Except DecodeError (Nat × Nat) := do
  let (dsym, pos) ← symbol (expand P.distlen) inp pos
  let (xdist, pos) ← take inp k pos
  return (dsym * 2 ^ k + xdist + 1, pos)

/-- The validation and the copy of a match (R169, R170). -/
def finishMatch (length : Nat) (out : List Byte) : Nat × Nat → Except DecodeError Progress
  | (distance, pos) =>
    if distance > min out.length 4096 then .error .corruptStream else .ok (.more pos (copy distance length out))

/-- What follows the head of a unit: nothing after a literal and after the length 519, else the distance part. -/
def finishUnit (P : Config.TableParams) (dictBits : Nat) (inp out : List Byte) :
    Head × Nat → Except DecodeError Progress
  | (.literal b, pos) => .ok (.more pos (out ++ [b]))
  | (.length n, pos) =>
    if n = 519 then .ok (.ended out)
    else matchDistance P (if n = 2 then 2 else dictBits) inp pos >>= finishMatch n out

theorem unit_eq (P : Config.TableParams) (lit dictBits : Nat) (inp : List Byte) (pos : Nat) (out : List Byte) :
    unit P lit dictBits inp pos out = unitHead P lit inp pos >>= finishUnit P dictBits inp out := by
  simp only [unit, unitHead, bind_assoc]
  refine bind_congr fun ⟨flag, pos⟩ => ?_
  by_cases hflag : flag = 0
  · by_cases hlit : lit = 1 <;> simp only [hflag, hlit, if_true, if_false, bind_assoc] <;> rfl
  · simp only [hflag, if_false, bind_assoc]
    refine bind_congr fun ⟨sym, pos⟩ => bind_congr fun ⟨xlen, pos⟩ => ?_
    by_cases hn : base.getD sym 0 + xlen = 519
    · simp only [hn, if_true, pure_bind, finishUnit] <;> rfl
    · simp only [hn, if_false, pure_bind, finishUnit, matchDistance, bind_assoc] <;> rfl

theorem decode_eq (P : Config.TableParams) (inp : List Byte) :
    decode P inp = header inp 0 >>= startUnits P inp := by
  simp only [decode, header, bind_assoc]
  refine bind_congr fun ⟨v0, pos⟩ => ?_
  by_cases h0 : v0 > 1
  · simp only [h0, if_true] <;> rfl
  · simp only [h0, if_false, bind_assoc] <;> rfl

end Sys2Proof.Reference

/-!
PROOF. Each context of the machine (43_decoder.md R161 to R168) reads what the reference reads there.
-/
namespace Sys2Proof.Machine

theorem legalLit_ofNat {v : Nat} (h : v < 256) : legalLit (BitVec.ofNat 8 v) = true ↔ v ≤ 1 := by
  simp [legalLit, Nat.mod_eq_of_lt h]

theorem legalDictBits_ofNat {v : Nat} (h : v < 256) : legalDictBits (BitVec.ofNat 8 v) = true ↔ 4 ≤ v ∧ v ≤ 6 := by
  simp [legalDictBits, Nat.mod_eq_of_lt h]

/-- R161, the reads of the header step and the check between them. -/
theorem readHeader_readsAs {inp : List Byte} {r : BitReader} (h : BitReader.Agrees inp r) :
    ReadsAs inp r.bitpos
      (fun f v => f = .hdr (BitVec.ofNat 8 v.1) (BitVec.ofNat 8 v.2) ∧ v.1 ≤ 1 ∧ v.2 < 256)
      (readHeader inp r) (Reference.header inp r.bitpos) := by
  refine (bits_readsAs_take h (by decide)).bind fun v0 _ r0 hv0 hp0 hr0 => ?_
  obtain ⟨rfl, hlt0⟩ := hv0
  by_cases hv : v0 ≤ 1
  · simp only [(legalLit_ofNat hlt0).mpr hv, if_true, Nat.not_lt.mpr hv, if_false]
    refine (bits_readsAs_take hr0 (by decide)).bind fun v1 _ r1 hv1 hp1 hr1 => ?_
    obtain ⟨rfl, hlt1⟩ := hv1
    have hle : r.bitpos ≤ r1.bitpos := by omega
    exact .gives ⟨rfl, hv, hlt1⟩ hle hr1
  · simp only [mt (legalLit_ofNat hlt0).mp hv, Nat.lt_of_not_le hv, if_true]
    exact .fails _

/-- The shape that the head of a unit is read as (R163 to R167): 519 is END. -/
inductive HeadForm : Form → Reference.Head → Prop
  | litRaw (b : Byte) : HeadForm (.litRaw b) (.literal b)
  | litHuf (b : Byte) : HeadForm (.litHuf b) (.literal b)
  | endStream : HeadForm .endStream (.length 519)
  | matchLength (sym : Fin 16) (x : Nat) (h : lengthOf sym x ≠ 519) :
      HeadForm (.matchLength sym x) (.length (lengthOf sym x))

/-- R165: the symbol index is the byte. -/
theorem headForm_litHuf (s : Fin 256) : HeadForm (.litHuf (BitVec.ofFin s)) (.literal (BitVec.ofNat 8 s.val)) := by
  have hbyte : BitVec.ofNat 8 s.val = BitVec.ofFin s := BitVec.eq_of_toNat_eq (Nat.mod_eq_of_lt s.isLt)
  rw [hbyte]
  exact .litHuf _

theorem headForm_length (sym : Fin 16) (x : Nat) :
    HeadForm (if lengthOf sym x = endLength then .endStream else .matchLength sym x) (.length (lengthOf sym x)) := by
  by_cases h : lengthOf sym x = endLength
  · rw [if_pos h, h]
    exact .endStream
  · rw [if_neg h]
    exact .matchLength sym x h

theorem lengthExtra_le (sym : Fin 16) : lengthExtra sym ≤ 16 := by
  revert sym
  decide

theorem bitVec1_toNat_eq_one (b : BitVec 1) : b.toNat = 1 ↔ b = 1 := by
  revert b
  decide

/-- R163 to R167: the flag and what follows it, with the tables of this machine. It takes a bit at least. -/
theorem readUnit_readsAs {inp : List Byte} {lit : BitVec 1} {T L : Option HuffmanTable} {r : BitReader}
    (hctx : MachineContext (.unit lit T L)) (h : BitReader.Agrees inp r) :
    ReadsAs inp (r.bitpos + 1) HeadForm (readForm (.unit lit T L) inp r)
      (Reference.unitHead tableParams lit.toNat inp r.bitpos) := by
  obtain ⟨hT, rfl⟩ := hctx
  refine (bits_readsAs_take h (by decide)).bind fun flag _ r0 hflag hp0 hr0 => ?_
  obtain ⟨rfl, -⟩ := hflag
  by_cases hf : flag = 0
  · by_cases hlit : lit = 1
    · obtain rfl := hT hlit
      simp only [hf, if_true, readLiteral, hlit]
      refine (readSymbol_readsAs_symbol (Nat.le_of_eq length_expand_litlenSpec) hr0).bind fun s _ r1 hs hp1 hr1 => ?_
      obtain rfl := hs
      exact .gives (headForm_litHuf s) (Nat.le_trans hp0 hp1) hr1
    · simp only [hf, if_true, readLiteral, hlit, if_false, mt (bitVec1_toNat_eq_one lit).mp hlit]
      refine (bits_readsAs_take hr0 (by decide)).bind fun b _ r1 hb hp1 hr1 => ?_
      obtain ⟨rfl, -⟩ := hb
      exact .gives (.litRaw _) (Nat.le_trans hp0 (Nat.le_of_add_right_le hp1)) hr1
  · simp only [hf, if_false, readLength]
    refine (readSymbol_readsAs_symbol (Nat.le_of_eq length_expand_lenlenSpec) hr0).bind fun sym _ r1 hsym hp1 hr1 => ?_
    obtain rfl := hsym
    refine (bits_readsAs_take hr1 (lengthExtra_le sym)).bind fun x _ r2 hx hp2 hr2 => ?_
    obtain ⟨rfl, -⟩ := hx
    exact .gives (headForm_length sym x) (Nat.le_trans hp0 (Nat.le_trans hp1 (Nat.le_of_add_right_le hp2))) hr2

/-- R168: the distance of a match, with the tables of this machine; it is at most 4096. -/
theorem readDistance_readsAs {inp : List Byte} {k : Nat} {T : Option HuffmanTable} {r : BitReader}
    (hctx : MachineContext (.distance k T)) (h : BitReader.Agrees inp r) :
    ReadsAs inp r.bitpos
      (fun f d => ∃ dsym x, f = .matchDist dsym x ∧ distanceOf dsym k x = d ∧ d ≤ 4096)
      (readForm (.distance k T) inp r) (Reference.matchDistance tableParams k inp r.bitpos) := by
  obtain ⟨hk, rfl⟩ := hctx
  refine (readSymbol_readsAs_symbol (Nat.le_of_eq length_expand_distlenSpec) h).bind fun dsym _ r0 hsym hp0 hr0 => ?_
  obtain rfl := hsym
  refine (bits_readsAs_take hr0 (by omega)).bind fun x _ r1 hx hp1 hr1 => ?_
  obtain ⟨rfl, hlt⟩ := hx
  have hmax : dsym.val * 2 ^ k + x + 1 ≤ 4096 := by
    have := dsym.isLt
    obtain rfl | rfl | rfl | rfl := hk <;> omega
  exact .gives ⟨dsym, x, rfl, by simp [distanceOf, Nat.shiftLeft_eq], hmax⟩
    (Nat.le_trans hp0 (Nat.le_of_add_right_le hp1)) hr1

end Sys2Proof.Machine

/-!
PROOF. The machine refines the reference decode (43_decoder.md R175, 00_scope.md R14): each unit of the reference is one
or two steps of the machine.
-/
namespace Sys2Proof.Machine

/-- Some number of steps from `s` leads to a state that meets `Q`. -/
def Runs (s : State) (Q : State → Prop) : Prop := ∃ k t, Sys2Proof.core.run k s = .next t ∧ Q t

theorem core_run_zero (s : State) : Sys2Proof.core.run 0 s = .next s := rfl

theorem core_run_succ {s s' : State} (k : Nat) (h : step s = .next s') :
    Sys2Proof.core.run (k + 1) s = Sys2Proof.core.run k s' := by
  have hcore : Sys2Proof.core.step s = .next s' := h
  simp only [Host.Core.run, hcore]

/-- A run that did not stop took a step first. -/
theorem step_of_core_run_succ {s t : State} {k : Nat} (h : Sys2Proof.core.run (k + 1) s = .next t) :
    ∃ s', step s = .next s' ∧ Sys2Proof.core.run k s' = .next t := by
  have hcore : Sys2Proof.core.step s = step s := rfl
  simp only [Host.Core.run, hcore] at h
  cases hs : step s with
  | next s' => exact ⟨s', rfl, by simpa only [hs] using h⟩
  | fault e => simp [hs] at h
  | refused e => simp [hs] at h

namespace Runs

theorem now {s : State} {Q : State → Prop} (h : Q s) : Runs s Q := ⟨0, s, core_run_zero s, h⟩

theorem step {s s' : State} {Q : State → Prop} (hstep : step s = .next s') (h : Runs s' Q) : Runs s Q := by
  obtain ⟨k, t, hrun, hQ⟩ := h
  exact ⟨k + 1, t, (core_run_succ k hstep).trans hrun, hQ⟩

theorem trans {s : State} {Q Q' : State → Prop} (h : Runs s Q) (hQ : ∀ t, Q t → Runs t Q') : Runs s Q' := by
  obtain ⟨k, t, hrun, ht⟩ := h
  induction k generalizing s with
  | zero =>
    cases hrun
    exact hQ _ ht
  | succ k ih =>
    obtain ⟨s', hs, hrest⟩ := step_of_core_run_succ hrun
    exact .step hs (ih hrest)

/-- A failure taken in the next step is the outcome. -/
theorem failing {s : State} {e : DecodeError} {Q : State → Prop} (hstep : Machine.step s = .next (raise e s))
    (hQ : ∀ t, t.outcome = some (.error e) → Q t) : Runs s Q := .step hstep (.now (hQ _ rfl))

end Runs

/-- The machine in its decode loop over `inp`, with the mode bytes `lit` and `dictBits`, where the reference is at `pos`
with the output `out`; `pending` is the length of the match whose distance comes next. -/
structure InLoop (inp : List Byte) (lit dictBits pos : Nat) (out : List Byte) (pending : Option Nat) (s : State) :
    Prop where
  phase_eq : s.phase = .decodeLoop
  inp_eq : s.inp = inp
  lit_eq : s.lit.toNat = lit
  dictBits_eq : s.dictBits.toNat = dictBits
  pos_eq : s.bitpos = pos
  out_eq : s.out = out
  pending_eq : s.matchLen = pending
  tables : HeaderDone s
  reader : BitReader.Agrees inp s.br
  history : HistoryAgrees out s.sw

namespace InLoop

variable {inp out : List Byte} {lit dictBits pos : Nat} {pending : Option Nat} {s : State} {r : BitReader}

theorem running (h : InLoop inp lit dictBits pos out pending s) : s.running = true := by
  simp [State.running, h.phase_eq]

/-- After the bits of a literal, and its emission. -/
theorem emitted (h : InLoop inp lit dictBits pos out none s) (b : Byte) (hr : BitReader.Agrees inp r) :
    InLoop inp lit dictBits r.bitpos (out ++ [b]) none (emit b (s.advance r)) where
  phase_eq := h.phase_eq
  inp_eq := h.inp_eq
  lit_eq := h.lit_eq
  dictBits_eq := h.dictBits_eq
  pos_eq := rfl
  out_eq := by rw [emit_out, advance_out, h.out_eq]
  pending_eq := h.pending_eq
  tables := h.tables
  reader := hr
  history := push_keeps_historyAgrees b h.history

/-- After the bits of a match length. -/
theorem awaiting (h : InLoop inp lit dictBits pos out none s) (n : Nat) (hr : BitReader.Agrees inp r) :
    InLoop inp lit dictBits r.bitpos out (some n) { s.advance r with matchLen := some n } where
  phase_eq := h.phase_eq
  inp_eq := h.inp_eq
  lit_eq := h.lit_eq
  dictBits_eq := h.dictBits_eq
  pos_eq := rfl
  out_eq := h.out_eq
  pending_eq := rfl
  tables := h.tables
  reader := hr
  history := h.history

/-- After the bits of a distance, and its copy. -/
theorem copied {out' : List Byte} {sw : SlidingWindow} (h : InLoop inp lit dictBits pos out pending s)
    (hr : BitReader.Agrees inp r) (hsw : HistoryAgrees out' sw) :
    InLoop inp lit dictBits r.bitpos out' none { s.advance r with matchLen := none, out := out', sw := sw } where
  phase_eq := h.phase_eq
  inp_eq := h.inp_eq
  lit_eq := h.lit_eq
  dictBits_eq := h.dictBits_eq
  pos_eq := rfl
  out_eq := rfl
  pending_eq := rfl
  tables := h.tables
  reader := hr
  history := hsw

theorem context_unit (h : InLoop inp lit dictBits pos out none s) :
    s.context = .unit s.lit s.litTable s.lenTable ∧ MachineContext (.unit s.lit s.litTable s.lenTable) := by
  obtain ⟨hlit, hlen, -, -⟩ := h.tables
  exact ⟨by simp [State.context, h.phase_eq, h.pending_eq], hlit, hlen⟩

theorem distanceExtra_eq (h : InLoop inp lit dictBits pos out pending s) (n : Nat) :
    distanceExtra n s.dictBits = if n = 2 then 2 else dictBits := by
  rw [distanceExtra, h.dictBits_eq, len2DistExtra]

theorem context_distance {n : Nat} (h : InLoop inp lit dictBits pos out (some n) s) :
    s.context = .distance (if n = 2 then 2 else dictBits) s.distTable ∧
    MachineContext (.distance (if n = 2 then 2 else dictBits) s.distTable) := by
  obtain ⟨-, -, hdist, hlegal⟩ := h.tables
  refine ⟨by simp [State.context, h.phase_eq, h.pending_eq, h.distanceExtra_eq], ?_, hdist⟩
  simp only [legalDictBits, Bool.and_eq_true, decide_eq_true_eq, h.dictBits_eq] at hlegal
  split <;> omega

end InLoop

/-- The state the machine has when the reference's unit at `pos` has given `u`. -/
def Follows (inp : List Byte) (lit dictBits pos : Nat) (u : Except DecodeError Reference.Progress) (t : State) : Prop :=
  match u with
  | .error e => t.outcome = some (.error e)
  | .ok (.ended out) => t.outcome = some (.ok out)
  | .ok (.more pos' out) => pos < pos' ∧ InLoop inp lit dictBits pos' out none t

/-- R168 to R170: the distance part of a match, one step, against the rest of the reference's unit, which began at
`start`. -/
theorem distance_follows {inp out : List Byte} {lit dictBits start pos n : Nat} {s : State}
    (h : InLoop inp lit dictBits pos out (some n) s) (hstart : start < pos) :
    Runs s (Follows inp lit dictBits start
      (Reference.matchDistance tableParams (if n = 2 then 2 else dictBits) inp pos >>=
        Reference.finishMatch n out)) := by
  obtain ⟨hctx, hmach⟩ := h.context_distance
  obtain rfl := h.inp_eq
  obtain rfl := h.out_eq
  obtain rfl := h.pos_eq
  have hread := readDistance_readsAs hmach h.reader
  rw [← hctx] at hread
  obtain ⟨e, hx, hy⟩ | ⟨_, d, r, hx, hy, ⟨dsym, x, rfl, hd, hmax⟩, hpos, hr⟩ := hread
  · rw [State.bitpos, hy]
    exact .failing (step_of_readForm_error h.running hx) fun _ ht => ht
  · have hstep := step_of_readForm h.running hx
    have hcheck : d > min s.out.length 4096 ↔ s.out.length < d := by omega
    rw [← h.distanceExtra_eq] at hd
    rw [State.bitpos, hy]
    obtain ⟨hfar, hcopy⟩ | ⟨hnear, sw, hcopy, hsw⟩ :=
      takeDistance_eq_copy (s := s.advance r) h.pending_eq h.history hd hmax
    · have hres : (Except.ok (d, r.bitpos) >>= Reference.finishMatch n s.out) = .error .corruptStream :=
        if_pos (hcheck.mpr hfar)
      rw [hres]
      exact .failing (hstep.trans hcopy) fun _ ht => ht
    · have hres : (Except.ok (d, r.bitpos) >>= Reference.finishMatch n s.out) =
          .ok (.more r.bitpos (Reference.copy d n s.out)) := if_neg (mt hcheck.mp (Nat.not_lt.mpr hnear))
      rw [hres]
      exact .step (hstep.trans hcopy) (.now ⟨Nat.lt_of_lt_of_le hstart hpos, h.copied hr hsw⟩)

/-- R163 to R170: one unit of the reference. -/
theorem unit_follows {inp out : List Byte} {lit dictBits pos : Nat} {s : State}
    (h : InLoop inp lit dictBits pos out none s) :
    Runs s (Follows inp lit dictBits pos (Reference.unit tableParams lit dictBits inp pos out)) := by
  obtain ⟨hctx, hmach⟩ := h.context_unit
  obtain rfl := h.inp_eq
  obtain rfl := h.lit_eq
  obtain rfl := h.dictBits_eq
  obtain rfl := h.pos_eq
  have hread := readUnit_readsAs hmach h.reader
  rw [← hctx] at hread
  rw [Reference.unit_eq]
  obtain ⟨e, hx, hy⟩ | ⟨f, d, r, hx, hy, hform, hpos, hr⟩ := hread
  · rw [State.bitpos, hy]
    exact .failing (step_of_readForm_error h.running hx) fun _ ht => ht
  · have hstep := step_of_readForm h.running hx
    rw [State.bitpos, hy]
    cases hform with
    | litRaw b => exact .step hstep (.now ⟨hpos, h.emitted b hr⟩)
    | litHuf b => exact .step hstep (.now ⟨hpos, h.emitted b hr⟩)
    | endStream => exact .step hstep (.now (congrArg (some ∘ Except.ok) h.out_eq))
    | matchLength sym x hne =>
      have hlen := takeLength_copy hne (s.advance r)
      have hrest : (Except.ok (Reference.Head.length (lengthOf sym x), r.bitpos) >>=
          Reference.finishUnit tableParams s.dictBits.toNat s.inp out) = _ := if_neg hne
      rw [hrest]
      exact .step (hstep.trans (congrArg Host.Outcome.next hlen)) (distance_follows (h.awaiting _ hr) hpos)

/-- The decode loop, R163 to R171. Every unit takes a bit, so the reference's fuel outlasts the input (R174). -/
theorem units_follow {inp out : List Byte} {lit dictBits pos fuel : Nat} {s : State}
    (h : InLoop inp lit dictBits pos out none s) (hfuel : 8 * inp.length < pos + fuel) :
    Runs s fun t => t.outcome = some (Reference.units tableParams lit dictBits inp fuel pos out) := by
  induction fuel generalizing pos out s with
  | zero =>
    have hle : pos ≤ 8 * inp.length := h.pos_eq ▸ agrees_bitpos_le h.reader
    omega
  | succ fuel ih =>
    refine (unit_follows h).trans fun t ht => ?_
    cases hu : Reference.unit tableParams lit dictBits inp pos out with
    | error e =>
      rw [hu] at ht
      exact .now (by simpa only [Reference.units, hu, Follows] using ht)
    | ok u =>
      rw [hu] at ht
      cases u with
      | ended out' => exact .now (by simpa only [Reference.units, hu, Follows] using ht)
      | more pos' out' =>
        obtain ⟨hpos, hloop⟩ := ht
        simpa only [Reference.units, hu] using ih hloop (by omega)

/-- After the two bytes of a legal header (R162). -/
theorem inLoop_loadHeader {inp : List Byte} {v0 v1 : Nat} {r : BitReader} (h0 : v0 ≤ 1) (h1 : 4 ≤ v1 ∧ v1 ≤ 6)
    (hr : BitReader.Agrees inp r) :
    InLoop inp v0 v1 r.bitpos [] none
      (loadHeader tableParams (BitVec.ofNat 8 v0) (BitVec.ofNat 8 v1) ((State.start inp).advance r)) where
  phase_eq := rfl
  inp_eq := rfl
  lit_eq := by
    obtain rfl | rfl : v0 = 0 ∨ v0 = 1 := by omega
    · rfl
    · rfl
  dictBits_eq := Nat.mod_eq_of_lt (by omega)
  pos_eq := rfl
  out_eq := rfl
  pending_eq := rfl
  tables := by
    refine ⟨fun hlit => ?_, rfl, rfl, (legalDictBits_ofNat (by omega)).mpr h1⟩
    obtain rfl | rfl : v0 = 0 ∨ v0 = 1 := by omega
    · exact absurd (show (0 : BitVec 1) = 1 from hlit) (by decide)
    · rfl
  reader := hr
  history := historyAgrees_init

/-- R161 and R162: the header step against the reference's. -/
theorem decode_follows (inp : List Byte) :
    Runs (State.start inp) fun t => t.outcome = some (Reference.decode tableParams inp) := by
  rw [Reference.decode_eq]
  obtain ⟨e, hx, hy⟩ | ⟨_, ⟨v0, v1⟩, r, hx, hy, ⟨rfl, h0, h1⟩, hpos, hr⟩ := readHeader_readsAs (agrees_init inp)
  · rw [show Reference.header inp 0 = .error e from hy]
    exact .failing (step_of_readForm_error rfl hx) fun _ ht => ht
  · rw [show Reference.header inp 0 = .ok ((v0, v1), r.bitpos) from hy]
    have hstep := step_of_readForm (s := State.start inp) rfl hx
    have hlit : legalLit (BitVec.ofNat 8 v0) = true := (legalLit_ofNat (by omega)).mpr h0
    obtain ⟨hbad, hraise⟩ | ⟨-, hdict, hload⟩ := takeHeader_cases (BitVec.ofNat 8 v0) (BitVec.ofNat 8 v1)
      ((State.start inp).advance r)
    · rw [hlit, Bool.true_and, ← Bool.not_eq_true, legalDictBits_ofNat h1] at hbad
      refine .failing (hstep.trans hraise) fun t ht => ht.trans (congrArg some (if_pos ?_).symm)
      omega
    · have hrange : 4 ≤ v1 ∧ v1 ≤ 6 := (legalDictBits_ofNat h1).mp hdict
      have hres : (Except.ok ((v0, v1), r.bitpos) >>= Reference.startUnits tableParams inp) =
          Reference.units tableParams v0 v1 inp (8 * inp.length + 1) r.bitpos [] := if_neg (by omega)
      rw [hres]
      exact .step (hstep.trans hload) (units_follow (inLoop_loadHeader h0 hrange hr) (by omega))

/-- Settles O47: a simulation, unit by unit, with the reader tied to the reference's position and the window to its
output (`InLoop`), and the reference's fuel bounded by the bits left. -/
theorem machineComputesTheReferenceDecode : Obligations.MachineComputesTheReferenceDecode := decode_follows

end Sys2Proof.Machine

/-!
PROOF. Every read moves the reader forward (10_state.md R22, 40_bitreader.md R101): whatever the tables, an instruction
that was read took a bit at least, and the reader behind it agrees with the stream.
-/
namespace Sys2Proof.Machine

/-- Where the read `x` gives a value, its reader agrees with the stream and stands at position `p` or later. -/
def Reaches {α : Type} (inp : List Byte) (p : Nat) (x : Except Stop (α × BitReader)) : Prop :=
  ∀ a r, x = .ok (a, r) → p ≤ r.bitpos ∧ BitReader.Agrees inp r

namespace Reaches

variable {α β : Type} {inp : List Byte} {p q : Nat} {x : Except Stop (α × BitReader)}

theorem stops (e : Stop) : Reaches inp p (.error e : Except Stop (α × BitReader)) := by
  intro a r h
  cases h

theorem gives (a : α) {r : BitReader} (hp : p ≤ r.bitpos) (hr : BitReader.Agrees inp r) :
    Reaches inp p (.ok (a, r)) := by
  intro _ _ h
  cases h
  exact ⟨hp, hr⟩

/-- Two reads in a row: the second starts where the first ended. -/
theorem bind {f : α × BitReader → Except Stop (β × BitReader)} (h : Reaches inp p x)
    (hf : ∀ a r, p ≤ r.bitpos → BitReader.Agrees inp r → Reaches inp q (f (a, r))) : Reaches inp q (x >>= f) := by
  cases x with
  | error e => exact stops e
  | ok y =>
    obtain ⟨hp, hr⟩ := h y.1 y.2 rfl
    exact hf y.1 y.2 hp hr

theorem mono (h : Reaches inp p x) (hq : q ≤ p) : Reaches inp q x := fun a r hx =>
  (h a r hx).imp_left (Nat.le_trans hq)

end Reaches

variable {inp : List Byte} {r : BitReader}

/-- R101: `bits(n)` moves `n` bits on. -/
theorem bits_reaches (n : Nat) (h : BitReader.Agrees inp r) : Reaches inp (r.bitpos + n) (bits inp n r) := by
  intro v r' hok
  obtain ⟨hn, -⟩ := bits_ok hok
  obtain ⟨-, he⟩ | ⟨-, q, hq, hpos, hagr⟩ := bits_of_agrees h hn
  · rw [he] at hok
    cases hok
  · rw [hq] at hok
    cases hok
    exact ⟨Nat.le_of_eq hpos.symm, hagr⟩

/-- R123: the loop reads a bit before it can find a symbol. -/
theorem decodeLoop_reaches (symbol counts : List Nat) (code first index : Nat) (h : BitReader.Agrees inp r) :
    Reaches inp (r.bitpos + 1) (decodeLoop inp symbol counts code first index r) := by
  induction counts generalizing code first index r with
  | nil => exact .stops _
  | cons c cs ih =>
    rw [decodeLoop]
    cases hb : bits inp 1 r with
    | error e => exact .stops e
    | ok y =>
      obtain ⟨hpos, hagr⟩ := bits_reaches 1 h y.1 y.2 hb
      dsimp only
      split
      · split
        · exact .gives _ hpos hagr
        · exact .stops _
      · exact (ih _ _ _ hagr).mono (Nat.le_succ_of_le hpos)

theorem readSymbol_reaches (n : Nat) (T : Option HuffmanTable) (h : BitReader.Agrees inp r) :
    Reaches inp (r.bitpos + 1) (readSymbol n T inp r) := by
  cases T with
  | none => exact .stops _
  | some T =>
    rw [readSymbol]
    cases hs : decodeSymbol T inp r with
    | error e => exact .stops e
    | ok y =>
      obtain ⟨hpos, hagr⟩ := decodeLoop_reaches T.symbol T.count.toList 0 0 0 h y.1 y.2 hs
      dsimp only
      split
      · exact .gives _ hpos hagr
      · exact .stops _

theorem readHeader_reaches (h : BitReader.Agrees inp r) : Reaches inp (r.bitpos + 1) (readHeader inp r) := by
  refine (bits_reaches 8 h).bind fun v0 r0 hp0 hr0 => ?_
  dsimp only
  split
  · exact (bits_reaches 8 hr0).bind fun _ r1 hp1 hr1 => .gives (r := r1) _ (by omega) hr1
  · exact .stops _

theorem readLiteral_reaches (lit : BitVec 1) (T : Option HuffmanTable) (h : BitReader.Agrees inp r) :
    Reaches inp (r.bitpos + 1) (readLiteral lit T inp r) := by
  unfold readLiteral
  split
  · exact (readSymbol_reaches 256 T h).bind fun _ _ hp hr => .gives _ hp hr
  · exact (bits_reaches 8 h).bind fun _ _ hp hr => .gives _ (by omega) hr

theorem readLength_reaches (T : Option HuffmanTable) (h : BitReader.Agrees inp r) :
    Reaches inp (r.bitpos + 1) (readLength T inp r) :=
  (readSymbol_reaches 16 T h).bind fun sym _ hp0 hr0 =>
    (bits_reaches (lengthExtra sym) hr0).bind fun _ _ hp1 hr1 => .gives _ (by omega) hr1

theorem readDistance_reaches (k : Nat) (T : Option HuffmanTable) (h : BitReader.Agrees inp r) :
    Reaches inp (r.bitpos + 1) (readDistance k T inp r) :=
  (readSymbol_reaches 64 T h).bind fun _ _ hp0 hr0 =>
    (bits_reaches k hr0).bind fun _ _ hp1 hr1 => .gives _ (by omega) hr1

/-- Every instruction has a bit at least. -/
theorem readForm_reaches (ctx : Context) (h : BitReader.Agrees inp r) :
    Reaches inp (r.bitpos + 1) (readForm ctx inp r) := by
  cases ctx with
  | header => exact readHeader_reaches h
  | distance k T => exact readDistance_reaches k T h
  | unit lit T L =>
    refine (bits_reaches 1 h).bind fun flag r0 hp0 hr0 => ?_
    dsimp only
    split
    · exact (readLiteral_reaches lit T hr0).mono (by omega)
    · exact (readLength_reaches L hr0).mono (by omega)

end Sys2Proof.Machine

/-!
PROOF. What a step can do, by the unit it runs (43_decoder.md R160 to R171).
-/
namespace Sys2Proof.Machine

/-- The shape read fits the phase and the pending length (R160, R163, R168). -/
theorem readForm_by_phase {s : State} {f : Form} {r : BitReader} (hrun : s.running = true)
    (h : readForm s.context s.inp s.br = .ok (f, r)) :
    (s.phase = .readHeader ∧ ∃ l k, f = .hdr l k) ∨
    (s.phase = .decodeLoop ∧
      ((∃ b, f = .litRaw b ∨ f = .litHuf b) ∨ f = .endStream ∨
       (∃ sym x, f = .matchLength sym x ∧ lengthOf sym x ≠ endLength ∧ x < 2 ^ lengthExtra sym) ∨
       ∃ n dsym x, s.matchLen = some n ∧ f = .matchDist dsym x ∧ x < 2 ^ distanceExtra n s.dictBits)) := by
  cases hp : s.phase with
  | readHeader =>
    simp only [State.context, hp] at h
    obtain ⟨l, k, hf, -⟩ := readForm_ok h
    exact .inl ⟨rfl, l, k, hf⟩
  | decodeLoop =>
    cases hm : s.matchLen with
    | none =>
      simp only [State.context, hp, hm] at h
      obtain ⟨b, ⟨-, hf⟩ | ⟨-, hf⟩⟩ | hf | hf := readForm_ok h
      · exact .inr ⟨rfl, .inl ⟨b, .inr hf⟩⟩
      · exact .inr ⟨rfl, .inl ⟨b, .inl hf⟩⟩
      · exact .inr ⟨rfl, .inr (.inl hf)⟩
      · exact .inr ⟨rfl, .inr (.inr (.inl hf))⟩
    | some n =>
      simp only [State.context, hp, hm] at h
      obtain ⟨dsym, x, hf⟩ := readForm_ok h
      exact .inr ⟨rfl, .inr (.inr (.inr ⟨n, dsym, x, rfl, hf⟩))⟩
  | done => simp [State.running, hp] at hrun
  | failed => simp [State.running, hp] at hrun

/-- `wrapped` is never cleared by a push (42_window.md R141). -/
theorem push_keeps_wrapped (b : Byte) {w : SlidingWindow} (h : w.wrapped = true) : (push b w).wrapped = true := by
  rw [push_wrapped, h, Bool.true_or]

/-- A copy that does not fail never clears `wrapped` (R170). -/
theorem copyBytes_keeps_wrapped {d n : Nat} {s t : State} (h : copyBytes d n s = .next t) (ht : t.phase ≠ .failed)
    (hw : s.sw.wrapped = true) : t.sw.wrapped = true := by
  induction n generalizing s with
  | zero =>
    cases h
    exact hw
  | succ n ih =>
    rw [copyBytes] at h
    split at h
    · exact ih h (push_keeps_wrapped _ hw)
    · cases h
      exact absurd rfl ht
    · cases h
    · cases h

theorem takeDistance_keeps_wrapped {dsym : Fin 64} {x : Nat} {s t : State} (h : takeDistance dsym x s = .next t)
    (ht : t.phase ≠ .failed) (hw : s.sw.wrapped = true) : t.sw.wrapped = true := by
  unfold takeDistance at h
  split at h
  · cases h
  · dsimp only at h
    split at h
    · cases h
      exact absurd rfl ht
    · exact copyBytes_keeps_wrapped h ht hw

/-- What `s` becomes by the instruction in the bits up to `r`, short of a failure. -/
inductive Completes (s : State) (r : BitReader) : State → Prop
  /-- R161, R162 -/
  | header {l k : Byte} (hphase : s.phase = .readHeader) (hlit : legalLit l = true) (hdict : legalDictBits k = true) :
    Completes s r (loadHeader tableParams l k (s.advance r))
  /-- R164, R165 -/
  | literal (b : Byte) (hphase : s.phase = .decodeLoop) : Completes s r (emit b (s.advance r))
  /-- R166 -/
  | length {sym : Fin 16} {x : Nat} (hphase : s.phase = .decodeLoop) (hne : lengthOf sym x ≠ endLength)
    (hx : x < 2 ^ lengthExtra sym) : Completes s r { s.advance r with matchLen := some (lengthOf sym x) }
  /-- R167 -/
  | ended (hphase : s.phase = .decodeLoop) : Completes s r (finish (s.advance r))
  /-- R168 to R170 -/
  | copied {n : Nat} {dsym : Fin 64} {x : Nat} {bs : List Byte} {sw : SlidingWindow} (hphase : s.phase = .decodeLoop)
    (hpending : s.matchLen = some n) (hx : x < 2 ^ distanceExtra n s.dictBits)
    (hwf : Memory.wf s.sw.win = true → Memory.wf sw.win = true)
    (hwrapped : s.sw.wrapped = true → sw.wrapped = true)
    (htake : takeDistance dsym x (s.advance r) =
      .next { s.advance r with matchLen := none, out := s.out ++ bs, sw := sw }) :
    Completes s r { s.advance r with matchLen := none, out := s.out ++ bs, sw := sw }

/-- What is left of a state when a failure was taken (60_exceptions.md R206): the input and the form of the memory. -/
def TakesFailure (s t : State) : Prop :=
  t.phase = .failed ∧ t.err ≠ none ∧ t.inp = s.inp ∧ Memory.wf t.sw.win = true

theorem raise_takesFailure (e : DecodeError) (s : State) : TakesFailure s (raise e s) :=
  ⟨rfl, Option.some_ne_none e, rfl, raise_keeps_wf e s⟩

/-- A distance row inside a match fails or copies. -/
theorem takeDistance_completes {s t : State} {r : BitReader} {n : Nat} {dsym : Fin 64} {x : Nat}
    (hphase : s.phase = .decodeLoop) (hpending : s.matchLen = some n) (hx : x < 2 ^ distanceExtra n s.dictBits)
    (h : takeDistance dsym x (s.advance r) = .next t) : TakesFailure s t ∨ Completes s r t := by
  obtain ⟨m, hm, ⟨hfail, herr, hinp, hwf⟩ | ⟨bs, sw, -, rfl, hwf⟩⟩ := takeDistance_next h
  · exact .inl ⟨hfail, by simp [herr], hinp, hwf⟩
  · have hwrapped := takeDistance_keeps_wrapped h (by simp [hphase])
    exact .inr (.copied hphase hpending hx hwf hwrapped h)

/-- The one inversion of a step: it took a failure, or it ran the instruction that its bits are. -/
theorem step_cases {s t : State} (h : step s = .next t) :
    TakesFailure s t ∨ ∃ f r, readForm s.context s.inp s.br = .ok (f, r) ∧ Completes s r t := by
  obtain ⟨hrun, ⟨e, -, rfl⟩ | ⟨i, r, hfetch, -⟩⟩ := step_next h
  · exact .inl (raise_takesFailure e s)
  · obtain ⟨f, hread, -⟩ := decode_ok hfetch
    have hexec : execForm f (s.advance r) = .next t := (step_of_readForm hrun hread).symm.trans h
    suffices H : TakesFailure s t ∨ Completes s r t from H.imp_right fun hc => ⟨f, r, hread, hc⟩
    obtain ⟨hphase, l, k, rfl⟩ | ⟨hphase, ⟨b, rfl | rfl⟩ | rfl | ⟨sym, x, rfl, hne, hx⟩ |
      ⟨n, dsym, x, hn, rfl, hx⟩⟩ := readForm_by_phase hrun hread
    · obtain ⟨-, htake⟩ | ⟨hlit, hdict, htake⟩ := takeHeader_cases l k (s.advance r)
      · cases htake.symm.trans hexec
        exact .inl (raise_takesFailure _ _)
      · cases htake.symm.trans hexec
        exact .inr (.header hphase hlit hdict)
    · cases hexec
      exact .inr (.literal b hphase)
    · cases hexec
      exact .inr (.literal b hphase)
    · cases hexec
      exact .inr (.ended hphase)
    · rw [execForm, takeLength_copy hne] at hexec
      cases hexec
      exact .inr (.length hphase hne hx)
    · exact takeDistance_completes hphase hn hx hexec

/-- Short of a failure (R206), a step ran the instruction that its bits are. -/
theorem step_completes {s t : State} (h : step s = .next t) (ht : t.phase ≠ .failed) :
    ∃ f r, readForm s.context s.inp s.br = .ok (f, r) ∧ Completes s r t :=
  (step_cases h).resolve_left fun hfail => ht hfail.1

namespace Completes

variable {s t : State} {r : BitReader}

theorem inp_eq (h : Completes s r t) : t.inp = s.inp := by
  cases h <;> rfl

theorem br_eq (h : Completes s r t) : t.br = r := by
  cases h <;> rfl

/-- R27 and R129: only the header step writes the mode bytes and the tables. -/
theorem header_state_eq (h : Completes s r t) (hphase : s.phase = .decodeLoop) :
    t.lit = s.lit ∧ t.dictBits = s.dictBits ∧ t.litTable = s.litTable ∧ t.lenTable = s.lenTable ∧
    t.distTable = s.distTable := by
  cases h with
  | header hheader => cases hheader.symm.trans hphase
  | literal => exact ⟨rfl, rfl, rfl, rfl, rfl⟩
  | length => exact ⟨rfl, rfl, rfl, rfl, rfl⟩
  | ended => exact ⟨rfl, rfl, rfl, rfl, rfl⟩
  | copied => exact ⟨rfl, rfl, rfl, rfl, rfl⟩

/-- R29: only a literal and a copy write the output, and both append. -/
theorem out_grows (h : Completes s r t) : ∃ bs, t.out = s.out ++ bs := by
  cases h with
  | header => exact ⟨[], (List.append_nil _).symm⟩
  | literal b => exact ⟨[b], rfl⟩
  | length => exact ⟨[], (List.append_nil _).symm⟩
  | ended => exact ⟨[], (List.append_nil _).symm⟩
  | copied => exact ⟨_, rfl⟩

/-- R26. -/
theorem keeps_wrapped (h : Completes s r t) (hw : s.sw.wrapped = true) : t.sw.wrapped = true := by
  cases h with
  | header => exact hw
  | literal b => exact push_keeps_wrapped b hw
  | length => exact hw
  | ended => exact hw
  | copied _ _ _ _ hwrapped => exact hwrapped hw

end Completes

/-- Settles O39, by the inversion of a step: neither a failure nor an instruction writes the input. -/
theorem inputIsNeverWritten : Obligations.InputIsNeverWritten := by
  intro s t h
  obtain ⟨-, -, hinp, -⟩ | ⟨f, r, -, hc⟩ := step_cases h
  · exact hinp
  · exact hc.inp_eq

/-- Settles O40, by the inversion of a step. -/
theorem headerStateIsWrittenOnce : Obligations.HeaderStateIsWrittenOnce := by
  intro s t h hphase ht
  obtain ⟨f, r, -, hc⟩ := step_completes h ht
  exact hc.header_state_eq hphase

/-- Settles O41, by the inversion of a step. -/
theorem outputOnlyGrows : Obligations.OutputOnlyGrows := by
  intro s t h ht
  obtain ⟨f, r, -, hc⟩ := step_completes h ht
  exact ⟨hc.out_grows, hc.keeps_wrapped⟩

end Sys2Proof.Machine

/-!
PROOF. The invariant (10_state.md R22, R27, R32): it holds after reset, every step keeps it, and it keeps the bit position
moving (43_decoder.md R174).
-/
namespace Sys2Proof.Machine

theorem inv_start (inp : List Byte) : (State.start inp).Inv :=
  ⟨rfl, nofun, fun _ => ⟨rfl, agrees_init inp, historyAgrees_init⟩, fun _ => ⟨rfl, rfl⟩, nofun⟩

/-- What the invariant says of a decoder that is running. -/
theorem inv_running {s : State} (h : s.Inv) (hrun : s.running = true) :
    s.err = none ∧ BitReader.Agrees s.inp s.br ∧ HistoryAgrees s.out s.sw := by
  obtain ⟨-, -, hok, -, -⟩ := h
  exact hok fun hp => by simp [State.running, hp] at hrun

/-- What the invariant asks in the decode loop. -/
theorem inv_decodeLoop {t : State} (hphase : t.phase = .decodeLoop) (hwf : Memory.wf t.sw.win = true)
    (herr : t.err = none) (hbr : BitReader.Agrees t.inp t.br) (hhist : HistoryAgrees t.out t.sw)
    (hheader : HeaderDone t) (hpending : ∀ n, t.matchLen = some n → 2 ≤ n ∧ n ≤ 518) : t.Inv :=
  ⟨hwf, by simp [hphase], fun _ => ⟨herr, hbr, hhist⟩, by simp [hphase], fun _ => ⟨hheader, hpending⟩⟩

theorem inv_of_takesFailure {s t : State} (h : TakesFailure s t) : t.Inv := by
  obtain ⟨hphase, herr, -, hwf⟩ := h
  exact ⟨hwf, fun _ => herr, fun hne => absurd hphase hne, by simp [hphase], by simp [hphase]⟩

/-- R162: a legal header leaves the tables of its mode. -/
theorem headerDone_loadHeader {l k : Byte} (hlit : legalLit l = true) (hdict : legalDictBits k = true) (s : State) :
    HeaderDone (loadHeader tableParams l k s) := by
  have hone : l.setWidth 1 = 1 → l = 1 := by
    have hle : l.toNat ≤ 1 := of_decide_eq_true hlit
    intro h
    have hmod : l.toNat % 2 = 1 := by simpa using congrArg BitVec.toNat h
    exact BitVec.eq_of_toNat_eq (show l.toNat = 1 by omega)
  exact ⟨fun h => if_pos (hone h), rfl, rfl, hdict⟩

/-- R77: the lengths that wait for a distance. -/
theorem lengthOf_range {sym : Fin 16} {x : Nat} (hx : x < 2 ^ lengthExtra sym) (hne : lengthOf sym x ≠ endLength) :
    2 ≤ lengthOf sym x ∧ lengthOf sym x ≤ 518 := by
  have hbase : ∀ sym : Fin 16, 2 ≤ base.getD sym.val 0 ∧ base.getD sym.val 0 + 2 ^ lengthExtra sym ≤ 520 := by
    decide
  obtain ⟨hlow, hhigh⟩ := hbase sym
  simp only [lengthOf, endLength] at hne ⊢
  omega

theorem distanceExtra_le {n : Nat} {k : Byte} (h : legalDictBits k = true) : distanceExtra n k ≤ 6 := by
  simp only [legalDictBits, Bool.and_eq_true, decide_eq_true_eq] at h
  unfold distanceExtra len2DistExtra
  split <;> omega

/-- R78: a distance is at most the window's size. -/
theorem distanceOf_le {dsym : Fin 64} {k x : Nat} (hk : k ≤ 6) (hx : x < 2 ^ k) : distanceOf dsym k x ≤ 4096 :=
  calc dsym.val <<< k + x + 1
      ≤ dsym.val * 2 ^ k + 2 ^ k := by rw [Nat.shiftLeft_eq]; omega
    _ = (dsym.val + 1) * 2 ^ k := (Nat.succ_mul _ _).symm
    _ ≤ 64 * 2 ^ 6 := Nat.mul_le_mul dsym.isLt (Nat.pow_le_pow_right (by decide) hk)

/-- R32 across a copy: the window is the one that the copy on the output alone has. -/
theorem copied_historyAgrees {s t : State} {n : Nat} {dsym : Fin 64} {x : Nat} (hdict : legalDictBits s.dictBits = true)
    (hpending : s.matchLen = some n) (hx : x < 2 ^ distanceExtra n s.dictBits) (hhist : HistoryAgrees s.out s.sw)
    (h : takeDistance dsym x s = .next t) (ht : t.phase ≠ .failed) : HistoryAgrees t.out t.sw := by
  obtain ⟨-, hfail⟩ | ⟨-, sw, hcopy, hsw⟩ :=
    takeDistance_eq_copy hpending hhist rfl (distanceOf_le (distanceExtra_le hdict) hx)
  · cases hfail.symm.trans h
    exact absurd rfl ht
  · cases hcopy.symm.trans h
    exact hsw

/-- Every instruction keeps the invariant, given where its bits end. -/
theorem Completes.inv {s t : State} {r : BitReader} (hc : Completes s r t) (hs : s.Inv) (hrun : s.running = true)
    (hr : BitReader.Agrees s.inp r) : t.Inv := by
  obtain ⟨herr, -, hhist⟩ := inv_running hs hrun
  obtain ⟨hwf, -, -, hreset, hloop⟩ := hs
  cases hc with
  | header hphase hlit hdict =>
    have hnone : s.matchLen = none := (hreset hphase).2
    exact inv_decodeLoop rfl hwf herr hr hhist (headerDone_loadHeader hlit hdict _) (by simp [hnone])
  | literal b hphase =>
    obtain ⟨hheader, hpending⟩ := hloop hphase
    exact inv_decodeLoop hphase (push_keeps_wf b hwf) herr hr (push_keeps_historyAgrees b hhist) hheader hpending
  | length hphase hne hx =>
    obtain ⟨hheader, -⟩ := hloop hphase
    refine inv_decodeLoop hphase hwf herr hr hhist hheader fun n hn => ?_
    cases hn
    exact lengthOf_range hx hne
  | ended hphase => exact ⟨hwf, nofun, fun _ => ⟨herr, hr, hhist⟩, nofun, nofun⟩
  | copied hphase hpending hx hkeeps _ htake =>
    obtain ⟨hheader, -⟩ := hloop hphase
    have ⟨_, _, _, hdict⟩ := hheader
    have hcopied := copied_historyAgrees (s := s.advance r) hdict hpending hx hhist htake (by simp [hphase])
    exact inv_decodeLoop hphase (hkeeps hwf) herr hr hcopied hheader nofun

/-- Settles O44: the inversion of a step, and for each unit that the reader, the window, the tables and the pending
length it leaves meet the invariant. -/
theorem stepKeepsInvariant : Obligations.StepKeepsInvariant := by
  intro s t hs h
  obtain ⟨hrun, -⟩ := step_next h
  obtain ⟨-, hbr, -⟩ := inv_running hs hrun
  obtain hfail | ⟨f, r, hread, hc⟩ := step_cases h
  · exact inv_of_takesFailure hfail
  · obtain ⟨-, hr⟩ := readForm_reaches s.context hbr f r hread
    exact hc.inv hs hrun hr

/-- Settles O42: an instruction has a bit at least, and its reader stays inside the input. -/
theorem bitPositionMovesForward : Obligations.BitPositionMovesForward := by
  intro s t hs h ht
  obtain ⟨hrun, -⟩ := step_next h
  obtain ⟨-, hbr, -⟩ := inv_running hs hrun
  obtain ⟨f, r, hread, hc⟩ := step_completes h ht
  obtain ⟨hpos, hr⟩ := readForm_reaches s.context hbr f r hread
  rw [State.bitpos, State.bitpos, hc.br_eq, hc.inp_eq]
  exact ⟨hpos, agrees_bitpos_le hr⟩

/-- Settles O2: each value is read off the reset state. -/
theorem resetLeavesDecoderIdle : Obligations.ResetLeavesDecoderIdle :=
  fun _ => ⟨rfl, rfl, rfl, rfl, rfl, rfl, rfl, rfl, rfl, rfl⟩

/-- Settles O6: fewer than 8 bits are held, and the bit position is that many before the cursor's byte. -/
theorem cursorIsPositionRoundedUp : Obligations.CursorIsPositionRoundedUp := by
  intro inp r h
  have hle := agrees_bitpos_le h
  obtain ⟨hcnt, hholds⟩ := agrees_iff_holds.mp h
  have hsum := holds_bitpos_add_cnt hholds
  exact ⟨by omega, hle⟩

/-- Settles O43: `State.reset` is the start on the empty input. -/
theorem invariantHoldsAfterReset : Obligations.InvariantHoldsAfterReset :=
  fun inp => ⟨inv_start inp, inv_start []⟩

end Sys2Proof.Machine

/-!
PROOF. What a push does to `read_back` (42_window.md R141 to R145): the history check, the domain and the cell read are
each compared before and after the push.
-/
namespace Sys2Proof.Machine

/-- `read_back` is decided by the history check, the domain and one cell (R142, R143, R145). -/
theorem readBack_congr {d e : Nat} {v w : SlidingWindow} (hfar : distanceTooFar v e = distanceTooFar w d)
    (hdom : (e = 0 ∨ 4096 < e) ↔ (d = 0 ∨ 4096 < d))
    (hcell : Memory.read v.win (readBackAddr v.pos e) = Memory.read w.win (readBackAddr w.pos d)) :
    readBack e v = readBack d w := by
  simp only [readBack, hfar, hdom, hcell]

/-- R141 and R143: after a push the history holds a byte, since `pos` is past 0 or `wrapped` is set. -/
theorem distanceTooFar_push_one (b : Byte) (w : SlidingWindow) : distanceTooFar (push b w) 1 = false := by
  rw [distanceTooFar, push_wrapped, push_pos_val]
  by_cases h : (w.pos.val + 1) % 4096 = 0
  · simp [h]
  · have hpos : ¬ (w.pos.val + 1) % 4096 < 1 := by omega
    simp [hpos]

/-- R141 and R143: after a push the history reaches one further. Where `pos` goes back to 0 without `wrapped` set
before, it was 4095, which `d` does not exceed, and `wrapped` is now set. -/
theorem distanceTooFar_push_succ {d : Nat} (b : Byte) (w : SlidingWindow) (h2 : d ≤ 4095) :
    distanceTooFar (push b w) (d + 1) = distanceTooFar w d := by
  rw [distanceTooFar, distanceTooFar, push_wrapped, push_pos_val]
  obtain hlast | hlt : w.pos.val = 4095 ∨ w.pos.val + 1 < 4096 := by omega
  · have hnear : ¬ 4095 < d := by omega
    simp [hlast, hnear]
  · simp [Nat.mod_eq_of_lt hlt]

/-- Settles O15: each of the three things `read_back` looks at is compared before and after the push. -/
theorem pushShiftsHistoryByOne : Obligations.PushShiftsHistoryByOne := by
  intro b w
  constructor
  · simp [readBack, distanceTooFar_push_one, readBackAddr_push_one, read_push_pos]
  · intro d h1 h2
    obtain ⟨haddr, hne⟩ := readBackAddr_push_succ b w h1 h2
    refine readBack_congr (distanceTooFar_push_succ b w h2) (by omega) ?_
    rw [haddr, read_push_other b hne]

end Sys2Proof.Machine

/-!
PROOF. Reading back what was written: a read that, wherever the bits of a code stand next, gives the code's value
(00_scope.md R11, 20_memory.md R52, 30_encoding.md R70). Such reads follow one another as their codes do, and no code of
one value is the beginning of the code of another.
-/
namespace Sys2Proof.Machine

theorem streamHas_append {inp : List Byte} {p : Nat} {c d : List Bool} (h : StreamHas inp p (c ++ d)) :
    StreamHas inp p c ∧ StreamHas inp (p + c.length) d := by
  obtain ⟨hfit, hbit⟩ := h
  rw [List.length_append] at hfit hbit
  refine ⟨⟨by omega, fun j hj => ?_⟩, by omega, fun j hj => ?_⟩
  · rw [← hbit j (by omega), List.getElem?_append_left hj]
  · rw [Nat.add_assoc, ← hbit (c.length + j) (by omega), List.getElem?_append_right (Nat.le_add_right _ _),
      Nat.add_sub_cancel_left]

/-- Bits of the stream, as a number, are the field that they fill. -/
theorem streamField_of_streamHas {inp : List Byte} {p : Nat} {c : List Bool} (h : StreamHas inp p c) :
    streamField inp p c.length = natOfBits c := by
  have hc : (List.range c.length).map (fun j => streamBit inp (p + j)) = c := by
    refine List.ext_getElem? fun j => ?_
    obtain hj | hj := Nat.lt_or_ge j c.length
    · rw [h.2 j hj, List.getElem?_map, List.getElem?_range hj, Option.map_some]
    · simp [hj]
  rw [streamField, hc]

/-- Wherever the bits `c` are the next ones, `read` gives `a` and moves behind them. -/
def DecodesAs {α : Type} (read : List Byte → BitReader → Except Stop (α × BitReader)) (c : List Bool) (a : α) : Prop :=
  ∀ (inp : List Byte) (r : BitReader), BitReader.Agrees inp r → StreamHas inp r.bitpos c →
    ∃ r', read inp r = .ok (a, r') ∧ r'.bitpos = r.bitpos + c.length ∧ BitReader.Agrees inp r'

/-- A field of known value before any other read. -/
theorem DecodesAs.bind {α β : Type} {f : List Byte → BitReader → Except Stop (α × BitReader)}
    {g : List Byte → α × BitReader → Except Stop (β × BitReader)} {c d : List Bool} {a : α} {b : β}
    (hf : DecodesAs f c a) (hg : DecodesAs (fun inp r => g inp (a, r)) d b) :
    DecodesAs (fun inp r => f inp r >>= g inp) (c ++ d) b := by
  intro inp r hr hs
  obtain ⟨hc, hd⟩ := streamHas_append hs
  obtain ⟨r₁, hf₁, hpos₁, hr₁⟩ := hf inp r hr hc
  obtain ⟨r₂, hg₂, hpos₂, hr₂⟩ := hg inp r₁ hr₁ (hpos₁ ▸ hd)
  exact ⟨r₂, by simp only [hf₁]; exact hg₂, by rw [hpos₂, hpos₁, List.length_append, Nat.add_assoc], hr₂⟩

/-- The end of a read. -/
theorem decodesAs_ok {α : Type} (a : α) : DecodesAs (fun _ r => .ok (a, r)) [] a :=
  fun _ r hr _ => ⟨r, rfl, rfl, hr⟩

/-- The last field of a read, from which the value is made. -/
theorem DecodesAs.map {α β : Type} {f : List Byte → BitReader → Except Stop (α × BitReader)}
    {g : List Byte → α × BitReader → Except Stop (β × BitReader)} {c : List Bool} {a : α} {b : β}
    (hf : DecodesAs f c a) (hg : ∀ inp r, g inp (a, r) = .ok (b, r)) :
    DecodesAs (fun inp r => f inp r >>= g inp) c b := by
  have hend : DecodesAs (fun inp r => g inp (a, r)) [] b := by
    simpa only [hg] using decodesAs_ok b
  simpa using hf.bind hend

/-- R52 and R101: a raw field reads back. -/
theorem bits_decodesAs {n v : Nat} (hn : n ≤ 16) (hv : v < 2 ^ n) :
    DecodesAs (fun inp r => bits inp n r) (rawBits n v) v := by
  intro inp r hr hs
  have hlen : (rawBits n v).length = n := by simp [rawBits]
  have hval : streamField inp r.bitpos n = v := by
    rw [← hlen, streamField_of_streamHas hs, natOfBits_rawBits, Nat.mod_eq_of_lt hv]
  obtain ⟨hend, -⟩ | ⟨-, r', hok, hpos, hr'⟩ := bits_of_agrees hr hn
  · have hfit := hs.1
    omega
  · exact ⟨r', hval ▸ hok, hlen.symm ▸ hpos, hr'⟩

/-- A single bit reads back. -/
theorem bit_decodesAs (b : Bool) : DecodesAs (fun inp r => bits inp 1 r) [b] b.toNat := by
  have hraw : rawBits 1 b.toNat = [b] := by cases b <;> rfl
  exact hraw ▸ bits_decodesAs (by decide) b.toNat_lt

/-! Any code can be put into an input. -/

theorem testBit_natOfBits (bs : List Bool) (k : Nat) : (natOfBits bs).testBit k = bs.getD k false := by
  induction bs generalizing k with
  | nil => simp [natOfBits]
  | cons b bs ih =>
    rw [natOfBits, Nat.add_comm]
    cases k with
    | zero => cases b <;> simp [Nat.testBit_zero]
    | succ k =>
      have hhalf : (2 * natOfBits bs + b.toNat) / 2 = natOfBits bs := by
        have := b.toNat_lt
        omega
      rw [Nat.testBit_succ, hhalf, ih, List.getD_cons_succ]

theorem length_packBytes (bs : List Bool) (n : Nat) : (packBytes bs n).length = n := by
  induction n generalizing bs with
  | zero => rfl
  | succ n ih => rw [packBytes, List.length_cons, ih]

/-- R88: stream bit `k` of the packed bytes is bit `k` of the string. -/
theorem streamBit_packBytes {n k : Nat} (bs : List Bool) (hk : k < 8 * n) :
    streamBit (packBytes bs n) k = bs.getD k false := by
  induction n generalizing bs k with
  | zero => omega
  | succ n ih =>
    rw [packBytes]
    obtain hlow | hhigh := Nat.lt_or_ge k 8
    · have hbyte : natOfBits (bs.take 8) < 256 :=
        Nat.lt_of_lt_of_le (natOfBits_lt _) (Nat.pow_le_pow_right (by decide) (List.length_take_le 8 bs))
      simp [streamBit, Nat.div_eq_of_lt hlow, Nat.mod_eq_of_lt hlow, Nat.mod_eq_of_lt hbyte, testBit_natOfBits,
        hlow]
    · obtain ⟨m, rfl⟩ : ∃ m, k = m + 8 := ⟨k - 8, by omega⟩
      have hrest := ih (bs.drop 8) (k := m) (by omega)
      have hskip : streamBit (BitVec.ofNat 8 (natOfBits (bs.take 8)) :: packBytes (bs.drop 8) n) (m + 8) =
          streamBit (packBytes (bs.drop 8) n) m := by
        simp [streamBit]
      rw [hskip, hrest, List.getD_eq_getElem?_getD, List.getD_eq_getElem?_getD, List.getElem?_drop, Nat.add_comm]

/-- R88: every bit string can stand at the beginning of an input. -/
theorem streamHas_packBytes (c : List Bool) : StreamHas (packBytes c ((c.length + 7) / 8)) 0 c := by
  refine ⟨by rw [length_packBytes]; omega, fun j hj => ?_⟩
  rw [Nat.zero_add, streamBit_packBytes c (by omega), getD_of_lt false hj, List.getElem?_eq_getElem hj]

/-- R86: codes that one read tells apart are no beginnings of one another, since on an input with both the read gives
both values. -/
theorem DecodesAs.eq_of_beginning {α : Type} {read : List Byte → BitReader → Except Stop (α × BitReader)}
    {c c' : List Bool} {a a' : α} (h : DecodesAs read c a) (h' : DecodesAs read c' a') (hp : c <+: c') : a = a' := by
  obtain ⟨d, rfl⟩ := hp
  have hstream := streamHas_packBytes (c ++ d)
  generalize packBytes (c ++ d) _ = inp at hstream
  obtain ⟨_, hok, -⟩ := h inp BitReader.init (agrees_init inp) (streamHas_append hstream).1
  obtain ⟨_, hok', -⟩ := h' inp BitReader.init (agrees_init inp) hstream
  cases hok.symm.trans hok'
  rfl

end Sys2Proof.Machine

/-!
PROOF. The code of a symbol (30_encoding.md R79) and the loop that reads it (41_huffman.md R123) walk the same counts. The
sum of R126 bounds the values of the codes, so that each has as many digits as its length.
-/
namespace Sys2Proof.Machine

/-- What the counts take of the codes of the longest length, 1 for each such code (R126). -/
def codeSpace : List Nat → Nat
  | [] => 0
  | c :: cs => c * 2 ^ cs.length + codeSpace cs

theorem codeSpace_add (f g : Nat → Nat) (Ls : List Nat) :
    codeSpace (Ls.map fun L => f L + g L) = codeSpace (Ls.map f) + codeSpace (Ls.map g) := by
  induction Ls with
  | nil => rfl
  | cons L Ls ih =>
    simp only [List.map_cons, codeSpace, ih, List.length_map, Nat.add_mul]
    omega

/-- One symbol with code length `l` takes `2 ^ (13 - l)` of the codes of length 13, if `l` is a code length. -/
theorem codeSpace_single (l L n : Nat) :
    codeSpace ((List.range' L n).map fun i => if l = i then 1 else 0) =
      if L ≤ l ∧ l < L + n then 2 ^ (L + n - 1 - l) else 0 := by
  induction n generalizing L with
  | zero =>
    have hempty : ¬ (L ≤ l ∧ l < L + 0) := by omega
    rw [if_neg hempty]
    rfl
  | succ n ih =>
    rw [List.range'_succ, List.map_cons, codeSpace, ih, List.length_map, List.length_range']
    by_cases heq : l = L
    · subst heq
      have hbehind : ¬ (l + 1 ≤ l ∧ l < l + 1 + n) := by omega
      have hwithin : l ≤ l ∧ l < l + (n + 1) := by omega
      have hexp : l + (n + 1) - 1 - l = n := by omega
      rw [if_pos rfl, if_neg hbehind, if_pos hwithin, hexp, Nat.one_mul, Nat.add_zero]
    · have hrange : (L + 1 ≤ l ∧ l < L + 1 + n) ↔ (L ≤ l ∧ l < L + (n + 1)) := by omega
      have hexp : L + 1 + n - 1 = L + (n + 1) - 1 := by omega
      simp only [heq, if_false, hrange, hexp, Nat.zero_mul, Nat.zero_add]

/-- R126: the sum over the symbols is the sum over the counts. -/
theorem codeSpace_counts (lens : List Nat) : codeSpace ((List.range' 1 13).map (countOf lens)) = kraftSum lens := by
  induction lens with
  | nil => rfl
  | cons l lens ih =>
    have hcount : countOf (l :: lens) = fun i => countOf lens i + if l = i then 1 else 0 := by
      funext i
      simp [countOf, List.count_cons]
    have hrange : (1 ≤ l ∧ l < 1 + 13) ↔ (1 ≤ l ∧ l ≤ 13) := by omega
    rw [hcount, codeSpace_add, ih, codeSpace_single, Nat.add_comm]
    simp only [kraftSum, List.map_cons, List.sum_cons, hrange]

/-- `first` goes up one length (R79, R123). -/
theorem shiftLeft_one_mul_two_pow (x n : Nat) : x <<< 1 * 2 ^ n = x * 2 ^ (n + 1) := by
  rw [Nat.shiftLeft_eq, Nat.mul_assoc, ← Nat.pow_add, Nat.add_comm 1 n]

/-- A code is not shorter than the first length walked, and its value is not below the codes that the shorter lengths
leave free, one bit more for each length. -/
theorem codeWalk_ge {j L first index M v : Nat} {counts : List Nat}
    (h : codeWalk j counts L first index = some (M, v)) : L ≤ M ∧ first * 2 ^ (M - L) ≤ v := by
  induction counts generalizing L first index with
  | nil => cases h
  | cons c cs ih =>
    rw [codeWalk] at h
    split at h
    · cases h
      simp
    · obtain ⟨hle, hv⟩ := ih h
      obtain ⟨d, rfl⟩ : ∃ d, M = L + 1 + d := ⟨M - (L + 1), by omega⟩
      have hd : L + 1 + d - L = d + 1 := by omega
      refine ⟨by omega, Nat.le_trans ?_ hv⟩
      rw [Nat.add_sub_cancel_left, hd, shiftLeft_one_mul_two_pow]
      exact Nat.mul_le_mul_right _ (Nat.le_add_right _ _)

/-- R79 and R126: where the counts that are left and `first` do not take more than there is, the value of a code has no
more digits than its length. -/
theorem codeWalk_lt {j L first index M v : Nat} {counts : List Nat} (hindex : index ≤ j)
    (hspace : first * 2 ^ counts.length + 2 * codeSpace counts ≤ 2 ^ (L + counts.length))
    (h : codeWalk j counts L first index = some (M, v)) : v < 2 ^ M := by
  induction counts generalizing L first index with
  | nil => cases h
  | cons c cs ih =>
    have hsplit : (first + c) * 2 ^ (cs.length + 1) + 2 * codeSpace cs ≤ 2 ^ L * 2 ^ (cs.length + 1) := by
      calc (first + c) * 2 ^ (cs.length + 1) + 2 * codeSpace cs
          = first * 2 ^ (cs.length + 1) + 2 * (c * 2 ^ cs.length + codeSpace cs) := by
            rw [Nat.add_mul, Nat.pow_succ, ← Nat.mul_assoc c]
            omega
        _ ≤ 2 ^ (L + (cs.length + 1)) := hspace
        _ = 2 ^ L * 2 ^ (cs.length + 1) := Nat.pow_add _ _ _
    rw [codeWalk] at h
    split at h
    · cases h
      have hle : first + c ≤ 2 ^ M :=
        Nat.le_of_mul_le_mul_right (Nat.le_of_add_right_le hsplit) (Nat.two_pow_pos _)
      omega
    · refine ih (by omega) ?_ h
      calc (first + c) <<< 1 * 2 ^ cs.length + 2 * codeSpace cs
          = (first + c) * 2 ^ (cs.length + 1) + 2 * codeSpace cs := by rw [shiftLeft_one_mul_two_pow]
        _ ≤ 2 ^ L * 2 ^ (cs.length + 1) := hsplit
        _ = 2 ^ (L + 1 + cs.length) := by rw [← Nat.pow_add, Nat.add_comm cs.length 1, Nat.add_assoc]

/-- R79 and R122: the walk to the place of a symbol, behind the symbols `pre` of the shorter codes, ends at the length of
that symbol. -/
theorem codeWalk_length {lens pre : List Nat} {j s L n : Nat} (first : Nat) (hpre : pre.length ≤ j)
    (hs : (pre ++ (List.range' L n).flatMap (symbolsOf lens))[j]? = some s) :
    ∃ v, codeWalk j ((List.range' L n).map (countOf lens)) L first pre.length = some (lens.getD s 0, v) := by
  induction n generalizing L pre first with
  | zero => simp [hpre] at hs
  | succ n ih =>
    rw [List.range'_succ, List.flatMap_cons] at hs
    rw [List.range'_succ, List.map_cons, codeWalk]
    by_cases hj : j < pre.length + countOf lens L
    · have hidx : j - pre.length < (symbolsOf lens L).length := by rw [length_symbolsOf]; omega
      rw [List.getElem?_append_right hpre, List.getElem?_append_left hidx] at hs
      rw [(mem_symbolsOf.mp (List.mem_of_getElem? hs)).2, if_pos hj]
      exact ⟨_, rfl⟩
    · rw [← List.append_assoc] at hs
      have hnext := ih (pre := pre ++ symbolsOf lens L) ((first + countOf lens L) <<< 1)
        (by rw [List.length_append, length_symbolsOf]; omega) hs
      rw [List.length_append, length_symbolsOf] at hnext
      simpa only [if_neg hj] using hnext

/-- The digits of a code that are left, complemented as they stand in the stream (R79): the next one first. -/
theorem complemented_msbBits_succ (n v : Nat) :
    (msbBits (n + 1) v).map (!·) = (!v.testBit n) :: (msbBits n v).map (!·) := by
  simp only [msbBits, List.range_succ_eq_map, List.map_cons, List.map_map, Nat.add_sub_cancel, Nat.sub_zero]
  refine congrArg _ (List.map_congr_left fun i _ => ?_)
  have hi : n - (i + 1) = n - 1 - i := by omega
  simp [hi]

/-- One more digit of a value, read complemented and inverted again (R123, 90_conflicts.md C1). -/
theorem add_inverted_digit (n v : Nat) : 2 * (v / 2 ^ (n + 1)) + (1 - (!v.testBit n).toNat) = v / 2 ^ n := by
  have hdigit : (v.testBit n).toNat = v / 2 ^ n % 2 := Nat.toNat_testBit v n
  have hinv : 1 - (!v.testBit n).toNat = (v.testBit n).toNat := by cases v.testBit n <;> rfl
  rw [hinv, hdigit, Nat.pow_succ, ← Nat.div_div_eq_div_mul, Nat.div_add_mod]

/-- R79 and R123: with the first digits of a symbol's code in `code` and `n` digits left in the stream, the loop finds the
symbol: no shorter code matches, since the value lies above them, and at its own length the offset is its place. -/
theorem decodeLoop_decodesAs {symbol counts : List Nat} {j s L first index M v n : Nat}
    (hs : symbol[j]? = some s) (hindex : index ≤ j) (hw : codeWalk j counts L first index = some (M, v))
    (hn : L + n = M + 1) :
    DecodesAs (fun inp r => decodeLoop inp symbol counts (2 * (v / 2 ^ n)) first index r)
      ((msbBits n v).map (!·)) s := by
  induction counts generalizing L first index n with
  | nil => cases hw
  | cons c cs ih =>
    have hM := (codeWalk_ge hw).1
    obtain ⟨m, rfl⟩ : ∃ m, n = m + 1 := ⟨n - 1, by omega⟩
    intro inp r hr hstream
    rw [complemented_msbBits_succ] at hstream ⊢
    obtain ⟨hbit, hrest⟩ := streamHas_append (c := [_]) hstream
    obtain ⟨r₁, hread, hpos₁, hr₁⟩ := bit_decodesAs _ inp r hr hbit
    dsimp only at hread ⊢
    rw [decodeLoop, hread]
    simp only [two_mul_or_inverted_bit _ (Bool.toNat_lt _), add_inverted_digit]
    rw [codeWalk] at hw
    split at hw
    · cases hw
      obtain rfl : m = 0 := by omega
      have hlt : first + (j - index) < first + c := by omega
      have hplace : index + (first + (j - index) - first) = j := by omega
      refine ⟨r₁, ?_, hpos₁, hr₁⟩
      simp only [Nat.pow_zero, Nat.div_one, hlt, if_true, hplace, hs]
    · obtain ⟨hLM, hge⟩ := codeWalk_ge hw
      obtain ⟨d, rfl⟩ : ∃ d, M = L + 1 + d := ⟨M - (L + 1), by omega⟩
      obtain rfl : m = d + 1 := by omega
      have habove : first + c ≤ v / 2 ^ (d + 1) := by
        rw [Nat.add_sub_cancel_left, shiftLeft_one_mul_two_pow] at hge
        exact (Nat.le_div_iff_mul_le (Nat.two_pow_pos _)).mpr hge
      obtain ⟨r₂, hok, hpos₂, hr₂⟩ := ih (n := d + 1) (by omega) hw (by omega) inp r₁ hr₁ (hpos₁ ▸ hrest)
      refine ⟨r₂, ?_, ?_, hr₂⟩
      · simpa only [Nat.not_lt.mpr habove, if_false, Nat.shiftLeft_eq, Nat.pow_one, Nat.mul_comm _ 2] using hok
      · rw [hpos₂, hpos₁, List.length_singleton, List.length_cons]
        omega

/-- R79 and R123, with the sum of R126 not above the codes there are: the code of each coded symbol has the symbol's
length and decodes to it. -/
theorem codeBits_decodesAs {lens : List Nat} {s L : Nat} (hkraft : kraftSum lens ≤ 2 ^ 13) (hs : lens[s]? = some L)
    (h1 : 1 ≤ L) (h13 : L ≤ 13) :
    ∃ c, codeBits (buildTable lens) s = some c ∧ c.length = L ∧ DecodesAs (decodeSymbol (buildTable lens)) c s := by
  obtain ⟨hlt, hlen⟩ := List.getElem?_eq_some_iff.mp hs
  have hL : lens.getD s 0 = L := (getD_of_lt 0 hlt).trans hlen
  have hmem : s ∈ (buildTable lens).symbol := by
    rw [buildTable_symbol, List.mem_flatMap]
    exact ⟨L, List.mem_range'_1.mpr ⟨h1, by omega⟩, mem_symbolsOf.mpr ⟨hlt, hL⟩⟩
  obtain ⟨j, hj⟩ := Option.isSome_iff_exists.mp (List.isSome_idxOf?.mpr hmem)
  obtain ⟨hjlt, hjs, -⟩ := List.idxOf?_eq_some_iff.mp hj
  have hplace : (buildTable lens).symbol[j]? = some s := List.getElem?_eq_some_iff.mpr ⟨hjlt, hjs⟩
  obtain ⟨v, hwalk⟩ : ∃ v, codeWalk j (buildTable lens).count.toList 1 0 0 = some (L, v) := by
    rw [buildTable_count, ← hL]
    exact codeWalk_length (pre := []) 0 (Nat.zero_le j) (buildTable_symbol lens ▸ hplace)
  have hv : v < 2 ^ L := by
    refine codeWalk_lt (Nat.zero_le j) ?_ hwalk
    rw [buildTable_count, codeSpace_counts, List.length_map, List.length_range']
    omega
  have hdecodes := decodeLoop_decodesAs (n := L) hplace (Nat.zero_le j) hwalk (Nat.add_comm 1 L)
  rw [Nat.div_eq_of_lt hv] at hdecodes
  exact ⟨(msbBits L v).map (!·), by simp [codeBits, hj, hwalk], by simp [msbBits], hdecodes⟩

/-- Settles O9: `codeBits` and `decodeSymbol` walk the same counts. -/
theorem huffmanCodeDecodesToItsSymbol : Obligations.HuffmanCodeDecodesToItsSymbol := by
  intro lens s L hle hkraft hs h1
  obtain ⟨c, hcode, rfl, hdecodes⟩ := codeBits_decodesAs hkraft hs h1 (hle L (List.mem_of_getElem? hs))
  exact ⟨c, hcode, rfl, hdecodes⟩

end Sys2Proof.Machine

/-!
PROOF. Each context's reading against its encoding (30_encoding.md R71 to R79, R86), field by field, with the default
tables.
-/
namespace Sys2Proof.Machine

/-- R6 and R120: every literal symbol has a code length. -/
theorem litlen_lengths : ∀ l ∈ expand litlenSpec, 1 ≤ l ∧ l ≤ 13 := by decide +kernel

theorem lenlen_lengths : ∀ l ∈ expand lenlenSpec, 1 ≤ l ∧ l ≤ 13 := by decide

theorem distlen_lengths : ∀ l ∈ expand distlenSpec, 1 ≤ l ∧ l ≤ 13 := by decide

/-- R79: in a table that codes its whole alphabet, every symbol of the alphabet has a code and reads back. -/
theorem readSymbol_decodesAs {lens : List Nat} {n : Nat} (hn : lens.length = n) (hall : ∀ l ∈ lens, 1 ≤ l ∧ l ≤ 13)
    (hkraft : kraftSum lens = 2 ^ 13) (s : Fin n) :
    ∃ c, codeBits (buildTable lens) s.val = some c ∧ DecodesAs (readSymbol n (some (buildTable lens))) c s := by
  have hlt : s.val < lens.length := hn ▸ s.isLt
  obtain ⟨h1, h13⟩ := hall _ (List.getElem_mem hlt)
  obtain ⟨c, hcode, -, hread⟩ := codeBits_decodesAs (Nat.le_of_eq hkraft) (List.getElem?_eq_getElem hlt) h1 h13
  refine ⟨c, hcode, fun inp r hr hstream => ?_⟩
  obtain ⟨r', hok, hpos, hr'⟩ := hread inp r hr hstream
  exact ⟨r', by simp only [readSymbol, hok, dif_pos s.isLt], hpos, hr'⟩

/-- R79 in the literal table. -/
theorem litSymbol_decodesAs (s : Fin 256) :
    ∃ c, codeBits (buildLit tableParams) s.val = some c ∧
      DecodesAs (readSymbol 256 (some (buildLit tableParams))) c s :=
  readSymbol_decodesAs length_expand_litlenSpec litlen_lengths kraftSum_litlenSpec s

/-- R79 in the length table. -/
theorem lenSymbol_decodesAs (s : Fin 16) :
    ∃ c, codeBits (buildLen tableParams) s.val = some c ∧
      DecodesAs (readSymbol 16 (some (buildLen tableParams))) c s :=
  readSymbol_decodesAs length_expand_lenlenSpec lenlen_lengths kraftSum_lenlenSpec s

/-- R79 in the distance table. -/
theorem distSymbol_decodesAs (s : Fin 64) :
    ∃ c, codeBits (buildDist tableParams) s.val = some c ∧
      DecodesAs (readSymbol 64 (some (buildDist tableParams))) c s :=
  readSymbol_decodesAs length_expand_distlenSpec distlen_lengths kraftSum_distlenSpec s

/-- A raw byte reads back (R52). -/
theorem byte_decodesAs (b : Byte) : DecodesAs (fun inp r => bits inp 8 r) (rawBits 8 b.toNat) b.toNat :=
  bits_decodesAs (by decide) b.isLt

/-- R71: the two header bytes. -/
theorem readHeader_decodesAs {l : Byte} (hl : legalLit l = true) (k : Byte) :
    DecodesAs readHeader (rawBits 8 l.toNat ++ rawBits 8 k.toNat) (.hdr l k) := by
  refine (byte_decodesAs l).bind ?_
  simp only [BitVec.ofNat_toNat, BitVec.setWidth_eq, hl, if_true]
  exact (byte_decodesAs k).map fun _ _ => by simp [pure, Except.pure]

/-- R72: the flag comes before the rest of a unit. -/
theorem flag_decodesAs {lit : BitVec 1} {T L : Option HuffmanTable} {f : Form} {flag : Bool} {c : List Bool}
    (h : DecodesAs (if flag then readLength L else readLiteral lit T) c f) :
    DecodesAs (readForm (.unit lit T L)) (flag :: c) f := by
  refine (bit_decodesAs flag).bind (c := [flag]) ?_
  cases flag <;> exact h

/-- R73: a raw literal. -/
theorem readLiteral_raw_decodesAs {lit : BitVec 1} (T : Option HuffmanTable) (hlit : lit ≠ 1) (b : Byte) :
    DecodesAs (readLiteral lit T) (rawBits 8 b.toNat) (.litRaw b) := by
  unfold readLiteral
  simp only [hlit, if_false]
  exact (byte_decodesAs b).map fun _ _ => by simp [pure, Except.pure]

/-- R74: a Huffman literal; the symbol is the byte. -/
theorem readLiteral_coded_decodesAs {T : Option HuffmanTable} {b : Byte} {c : List Bool}
    (hread : DecodesAs (readSymbol 256 T) c b.toFin) : DecodesAs (readLiteral 1 T) c (.litHuf b) := by
  unfold readLiteral
  simp only [if_true]
  exact hread.map fun _ _ => rfl

/-- R75 to R77: a length symbol and its extra bits; 519 is END. -/
theorem readLength_decodesAs {T : Option HuffmanTable} {sym : Fin 16} {x : Nat} {c : List Bool}
    (hread : DecodesAs (readSymbol 16 T) c sym) (hx : x < 2 ^ lengthExtra sym) :
    DecodesAs (readLength T) (c ++ rawBits (lengthExtra sym) x)
      (if lengthOf sym x = endLength then .endStream else .matchLength sym x) :=
  hread.bind ((bits_decodesAs (lengthExtra_le sym) hx).map fun _ _ => rfl)

/-- R75 and R78: a distance symbol and its extra bits. -/
theorem readDistance_decodesAs {T : Option HuffmanTable} {dsym : Fin 64} {k x : Nat} {c : List Bool}
    (hread : DecodesAs (readSymbol 64 T) c dsym) (hk : k ≤ 16) (hx : x < 2 ^ k) :
    DecodesAs (readDistance k T) (c ++ rawBits k x) (.matchDist dsym x) :=
  hread.bind ((bits_decodesAs hk hx).map fun _ _ => rfl)

/-- R71 to R79: every shape whose operands are allowed has an encoding where it can stand, and reads back. -/
theorem encodeForm_decodesAs {ctx : Context} {f : Form} (hctx : MachineContext ctx) (hwf : f.wellFormed = true)
    (hfits : ctx.fits f = true) : ∃ c, encodeForm ctx f = some c ∧ DecodesAs (readForm ctx) c f := by
  cases ctx with
  | header =>
    cases f with
    | hdr l k =>
      obtain ⟨hl, -⟩ := (Bool.and_eq_true _ _).mp hwf
      exact ⟨_, rfl, readHeader_decodesAs hl k⟩
    | _ => cases hfits
  | unit lit T L =>
    obtain ⟨hT, rfl⟩ := hctx
    cases f with
    | litRaw b =>
      have hlit : lit ≠ 1 := by simpa [Context.fits] using hfits
      exact ⟨_, if_neg hlit, flag_decodesAs (flag := false) (readLiteral_raw_decodesAs T hlit b)⟩
    | litHuf b =>
      obtain rfl : lit = 1 := by simpa [Context.fits] using hfits
      obtain rfl := hT rfl
      obtain ⟨c, hcode, hread⟩ := litSymbol_decodesAs b.toFin
      exact ⟨false :: c, by simpa [encodeForm] using hcode,
        flag_decodesAs (flag := false) (readLiteral_coded_decodesAs hread)⟩
    | matchLength sym x =>
      simp only [Form.wellFormed, Bool.and_eq_true, decide_eq_true_eq, bne_iff_ne] at hwf
      obtain ⟨hx, hne⟩ := hwf
      obtain ⟨c, hcode, hread⟩ := lenSymbol_decodesAs sym
      have hlength := readLength_decodesAs hread hx
      rw [if_neg hne] at hlength
      exact ⟨true :: (c ++ rawBits (lengthExtra sym) x), by simp [encodeForm, hcode],
        flag_decodesAs (flag := true) hlength⟩
    | endStream =>
      obtain ⟨c, hcode, hread⟩ := lenSymbol_decodesAs 15
      have hcode15 : codeBits (buildLen tableParams) 15 = some c := hcode
      have hend : lengthOf 15 255 = endLength := rfl
      have hlength := readLength_decodesAs (x := 255) hread (by decide)
      rw [if_pos hend] at hlength
      exact ⟨true :: (c ++ rawBits 8 255), by simp [encodeForm, hcode15], flag_decodesAs (flag := true) hlength⟩
    | _ => cases hfits
  | distance k T =>
    obtain ⟨-, rfl⟩ := hctx
    cases f with
    | matchDist dsym x =>
      simp only [Context.fits, Bool.and_eq_true, decide_eq_true_eq] at hfits
      obtain ⟨hk, hx⟩ := hfits
      obtain ⟨c, hcode, hread⟩ := distSymbol_decodesAs dsym
      exact ⟨c ++ rawBits k x, by simp [encodeForm, hcode], readDistance_decodesAs hread hk hx⟩
    | _ => cases hfits

/-- The shape of an instruction gives the instruction back, for every constructor. -/
theorem form_toInstr (i : Instr) : i.form.toInstr = i := by
  cases i with
  | matchL8 x => exact Laws.FormRoundTrip.matchL8 x
  | matchL9 x => exact Laws.FormRoundTrip.matchL9 x
  | matchL10 x => exact Laws.FormRoundTrip.matchL10 x
  | matchL11 x => exact Laws.FormRoundTrip.matchL11 x
  | matchL12 x => exact Laws.FormRoundTrip.matchL12 x
  | matchL13 x => exact Laws.FormRoundTrip.matchL13 x
  | matchL14 x => exact Laws.FormRoundTrip.matchL14 x
  | matchL15 x => exact Laws.FormRoundTrip.matchL15 x
  | _ => rfl

/-- R71 to R79, for instructions. -/
theorem encode_decodesAs {ctx : Context} {i : Instr} (hctx : MachineContext ctx) (hwf : i.wellFormed = true)
    (hfits : ctx.fits i.form = true) : ∃ c, encode ctx i = some c ∧ DecodesAs (decode ctx) c i := by
  obtain ⟨c, hcode, hread⟩ := encodeForm_decodesAs hctx hwf hfits
  refine ⟨c, hcode, fun inp r hr hstream => ?_⟩
  obtain ⟨r', hok, hpos, hr'⟩ := hread inp r hr hstream
  exact ⟨r', by simp only [decode, hok, form_toInstr], hpos, hr'⟩

/-- Settles O49: each field of the instruction reads back, one behind the other. -/
theorem decodeInvertsEncode : Obligations.DecodeInvertsEncode :=
  fun _ _ hctx hwf hfits => encode_decodesAs hctx hwf hfits

/-- Settles O50: both instructions are read back from the longer encoding. -/
theorem encodingsArePrefixFree : Obligations.EncodingsArePrefixFree := by
  intro ctx i j c c' hctx hi hfi hj hfj hc hc' hbegins
  obtain ⟨d, hd, hread⟩ := encode_decodesAs hctx hi hfi
  obtain ⟨d', hd', hread'⟩ := encode_decodesAs hctx hj hfj
  cases hc.symm.trans hd
  cases hc'.symm.trans hd'
  exact hread.eq_of_beginning hread' hbegins

end Sys2Proof.Machine

/-!
PROOF. The operands of a match (30_encoding.md R77, R78): every length and every distance has one encoding.
-/
namespace Sys2Proof.Machine

/-- The lengths of symbol `sym` end before `lengthEnd sym` (R77). -/
def lengthEnd (sym : Fin 16) : Nat := lengthOf sym (2 ^ lengthExtra sym)

theorem lengthOf_zero_le (sym : Fin 16) (x : Nat) : lengthOf sym 0 ≤ lengthOf sym x :=
  Nat.add_le_add_left (Nat.zero_le x) _

theorem lengthOf_lt_lengthEnd {sym : Fin 16} {x : Nat} (hx : x < 2 ^ lengthExtra sym) : lengthOf sym x < lengthEnd sym :=
  Nat.add_lt_add_left hx _

theorem lengthEnd_le (sym : Fin 16) : 2 ≤ lengthOf sym 0 ∧ lengthEnd sym ≤ 520 := by
  revert sym
  decide

/-- R77: the ranges of two symbols are disjoint. -/
theorem length_ranges_disjoint (sym sym' : Fin 16) (hne : sym ≠ sym') :
    lengthEnd sym ≤ lengthOf sym' 0 ∨ lengthEnd sym' ≤ lengthOf sym 0 := by
  revert sym sym'
  decide

/-- R77: where the range of a symbol ends, another begins, up to 519. -/
theorem length_ranges_adjacent (sym : Fin 16) : lengthEnd sym = 520 ∨ ∃ sym', lengthOf sym' 0 = lengthEnd sym := by
  revert sym
  decide

/-- R77: every length from 2 to 519 has a symbol and an extra value. -/
theorem exists_lengthOf {n : Nat} (h2 : 2 ≤ n) (hn : n ≤ 519) :
    ∃ sym x, x < 2 ^ lengthExtra sym ∧ lengthOf sym x = n := by
  obtain ⟨m, rfl⟩ := Nat.exists_eq_add_of_le h2
  induction m with
  | zero => exact ⟨1, 0, by decide, rfl⟩
  | succ m ih =>
    obtain ⟨sym, x, hx, hm⟩ := ih (by omega) (by omega)
    by_cases hlast : x + 1 < 2 ^ lengthExtra sym
    · exact ⟨sym, x + 1, hlast, congrArg Nat.succ hm⟩
    · have hend : lengthEnd sym = 2 + m + 1 := by
        have hx1 : 2 ^ lengthExtra sym = x + 1 := by omega
        rw [lengthEnd, hx1, ← hm]
        rfl
      obtain hall | ⟨sym', hnext⟩ := length_ranges_adjacent sym
      · omega
      · exact ⟨sym', 0, Nat.two_pow_pos _, hnext.trans hend⟩

/-- R77: a length determines its symbol and its extra value. -/
theorem lengthOf_inj {sym sym' : Fin 16} {x x' : Nat} (hx : x < 2 ^ lengthExtra sym) (hx' : x' < 2 ^ lengthExtra sym')
    (h : lengthOf sym' x' = lengthOf sym x) : sym' = sym ∧ x' = x := by
  have hsym : sym' = sym := Decidable.byContradiction fun hne => by
    have hlt := lengthOf_lt_lengthEnd hx
    have hlt' := lengthOf_lt_lengthEnd hx'
    have hle := lengthOf_zero_le sym x
    have hle' := lengthOf_zero_le sym' x'
    have hdisjoint := length_ranges_disjoint sym' sym hne
    omega
  subst hsym
  exact ⟨rfl, Nat.add_left_cancel h⟩

/-- Settles O24: the ranges of the 16 symbols follow one another from 2 to 519. -/
theorem everyLengthHasOneEncoding : Obligations.EveryLengthHasOneEncoding := by
  refine ⟨fun _ _ => rfl, fun _ => rfl, fun n h2 hn => ?_, fun sym x hx => ?_⟩
  · obtain ⟨sym, x, hx, rfl⟩ := exists_lengthOf h2 hn
    exact ⟨sym, x, hx, rfl, fun _ _ hx' h => lengthOf_inj hx hx' h⟩
  · have hrange := lengthEnd_le sym
    have hlow := lengthOf_zero_le sym x
    have hhigh := lengthOf_lt_lengthEnd hx
    omega

theorem distanceOf_eq (dsym : Fin 64) (k x : Nat) : distanceOf dsym k x = dsym.val * 2 ^ k + x + 1 := by
  rw [distanceOf, Nat.shiftLeft_eq]

/-- R78: symbol and extra bits are the quotient and the remainder of the distance before 1 is added. -/
theorem distanceOf_eq_iff {dsym : Fin 64} {k x d : Nat} (hd : 1 ≤ d) (hx : x < 2 ^ k) :
    distanceOf dsym k x = d ↔ dsym.val = (d - 1) >>> k ∧ x = (d - 1) &&& (2 ^ k - 1) := by
  have hsplit : dsym.val * 2 ^ k + x + 1 = d ↔ x + 2 ^ k * dsym.val = d - 1 := by
    rw [Nat.mul_comm]
    omega
  rw [distanceOf_eq, Nat.shiftRight_eq_div_pow, Nat.and_two_pow_sub_one_eq_mod, hsplit, eq_comm (a := dsym.val),
    eq_comm (a := x) (b := _ % _), Nat.div_mod_unique (Nat.two_pow_pos k)]
  simp [hx]

/-- Settles O27: division of `d - 1` by `2 ^ k`. -/
theorem everyDistanceHasOneEncoding : Obligations.EveryDistanceHasOneEncoding := by
  refine ⟨fun _ _ => rfl, fun k _ => ⟨fun dsym x hx => ⟨distanceOf_eq dsym k x, ?_, ?_⟩, fun d h1 hd => ?_⟩⟩
  · rw [distanceOf_eq]
    omega
  · calc distanceOf dsym k x
        ≤ (dsym.val + 1) * 2 ^ k := by rw [distanceOf_eq, Nat.succ_mul]; omega
      _ ≤ 64 * 2 ^ k := Nat.mul_le_mul_right _ dsym.isLt
  · have hquot : (d - 1) >>> k < 64 := by
      rw [Nat.shiftRight_eq_div_pow]
      exact Nat.div_lt_of_lt_mul (by omega)
    have hrem : (d - 1) &&& (2 ^ k - 1) < 2 ^ k := by
      rw [Nat.and_two_pow_sub_one_eq_mod]
      exact Nat.mod_lt _ (Nat.two_pow_pos k)
    refine ⟨⟨(d - 1) >>> k, hquot⟩, (d - 1) &&& (2 ^ k - 1), hrem, (distanceOf_eq_iff h1 hrem).mpr ⟨rfl, rfl⟩,
      rfl, rfl, fun dsym x hx h => ?_⟩
    obtain ⟨hdsym, hxd⟩ := (distanceOf_eq_iff h1 hx).mp h
    exact ⟨Fin.ext hdsym, hxd⟩

end Sys2Proof.Machine

/-!
PROOF. The written patterns of 30_encoding.md R71 to R83, evaluated.
-/
namespace Sys2Proof.Machine

/-- Settles O51: the encoder is evaluated on each of the six instructions. -/
theorem encodingsAreTheListedPatterns : Obligations.EncodingsAreTheListedPatterns :=
  ⟨by decide, by decide, by decide, by decide, by decide, by decide⟩

/-- Settles O52: the decoder is evaluated on each of the six words. -/
theorem tableWordsDecodeToTheirRows : Obligations.TableWordsDecodeToTheirRows :=
  ⟨by decide +kernel, by decide +kernel, by decide +kernel, by decide +kernel, by decide +kernel, by decide +kernel⟩

end Sys2Proof.Machine

/-!
PROOF. `bits(n)` as the claims of 40_bitreader.md state it (R100 to R106): the contract, two requests as one, and the
bounds of the domain.
-/
namespace Sys2Proof.Machine

/-- R22 and R31: the position determines the reader, since the cursor is the position rounded up, and `cnt` and `acc`
are what the stream holds between the two. -/
theorem agrees_ext {inp : List Byte} {q r : BitReader} (hq : BitReader.Agrees inp q) (hr : BitReader.Agrees inp r)
    (hpos : q.bitpos = r.bitpos) : q = r := by
  have hcur : q.cur = r.cur :=
    calc q.cur
        = (q.bitpos + 7) / 8 := (cursorIsPositionRoundedUp inp q hq).1
      _ = (r.bitpos + 7) / 8 := by rw [hpos]
      _ = r.cur := (cursorIsPositionRoundedUp inp r hr).1.symm
  obtain ⟨-, hholdsq⟩ := agrees_iff_holds.mp hq
  obtain ⟨-, hholdsr⟩ := agrees_iff_holds.mp hr
  have hcnt : q.cnt = r.cnt := by
    have hsumq := holds_bitpos_add_cnt hholdsq
    have hsumr := holds_bitpos_add_cnt hholdsr
    omega
  obtain ⟨-, -, haccq⟩ := hholdsq
  obtain ⟨-, -, haccr⟩ := hholdsr
  have hacc : q.acc = r.acc := by rw [haccq, haccr, hpos, hcnt]
  calc q = ⟨q.cur, q.acc, q.cnt⟩ := rfl
    _ = r := by rw [hcur, hacc, hcnt]

/-- R101: what a request that succeeded has read. -/
theorem bits_ok_of_agrees {inp : List Byte} {n v : Nat} {r r' : BitReader} (h : BitReader.Agrees inp r)
    (hok : bits inp n r = .ok (v, r')) :
    v = streamField inp r.bitpos n ∧ r'.bitpos = r.bitpos + n ∧ BitReader.Agrees inp r' := by
  obtain ⟨hn, -⟩ := bits_ok hok
  obtain ⟨-, he⟩ | ⟨-, q, hq, hpos, hagr⟩ := bits_of_agrees h hn
  · rw [he] at hok
    cases hok
  · cases hok.symm.trans hq
    exact ⟨rfl, hpos, hagr⟩

/-- Settles O4: the refill holds the bits that are then delivered (`bits_of_agrees`), and the two cases there exclude
each other. -/
theorem bitsMeetsAbstractContract : Obligations.BitsMeetsAbstractContract := by
  intro inp r n h hn
  obtain ⟨hend, he⟩ | ⟨hfit, hok⟩ := bits_of_agrees h hn
  · exact ⟨fun hfit => absurd hend (Nat.not_lt.mpr hfit), fun _ => he⟩
  · exact ⟨fun _ => ⟨streamField_lt inp r.bitpos n, hok⟩, fun hend => absurd hend (Nat.not_lt.mpr hfit)⟩

/-- Settles O5: the two fields concatenate, and both ways leave the one reader that agrees with the stream `a + b` bits
on. -/
theorem bitsRequestsCompose : Obligations.BitsRequestsCompose := by
  intro inp r r₁ r₂ a b va vb h hab ha hb
  obtain ⟨rfl, hpos₁, h₁⟩ := bits_ok_of_agrees h ha
  obtain ⟨rfl, hpos₂, h₂⟩ := bits_ok_of_agrees h₁ hb
  have hposab : r₂.bitpos = r.bitpos + (a + b) := by rw [hpos₂, hpos₁, Nat.add_assoc]
  have hfield : streamField inp r.bitpos (a + b) =
      streamField inp r.bitpos a + streamField inp r₁.bitpos b <<< a := by
    rw [streamField_add, hpos₁, Nat.shiftLeft_eq, Nat.mul_comm]
  obtain ⟨hend, -⟩ | ⟨-, q, hq, hposq, hagr⟩ := bits_of_agrees h hab
  · have hle := agrees_bitpos_le h₂
    omega
  · have hsame : q = r₂ := agrees_ext hagr h₂ (hposq.trans hposab.symm)
    rw [hq, hfield, hsame]

/-- R102: a request that the held bits cover fetches nothing. -/
theorem refill_of_le_cnt {inp : List Byte} {n : Nat} {r : BitReader} (fuel : Nat) (h : n ≤ r.cnt) :
    refill inp n fuel r = .ok r := by
  cases fuel with
  | zero => rfl
  | succ fuel => simp [refill, Nat.not_lt.mpr h]

/-- Settles O3: no refill for 0 bits, and the mask of 0 bits is 0. -/
theorem bitsOfZeroReadsNothing : Obligations.BitsOfZeroReadsNothing := by
  intro inp r
  have hmax : ¬ bitsMax < 0 := Nat.not_lt_zero _
  simp [bits, hmax, refill_of_le_cnt 2 (Nat.zero_le r.cnt)]

/-- Settles O7: the width is checked before the refill. -/
theorem bitsAboveSixteenRefused : Obligations.BitsAboveSixteenRefused :=
  fun _ _ _ hn => if_pos hn

/-- Settles O1: a reset is a start on the same input, so its registers are the initial ones and only the input tells two
resets apart. -/
theorem resetMakesFreshSubBlocks : Obligations.ResetMakesFreshSubBlocks := by
  refine ⟨fun s => ?_, ⟨⟨1, 0, 0⟩, rfl⟩, fun s s' hinp => ?_⟩
  · rw [hostReset_eq_start]
    exact ⟨rfl, rfl, rfl, rfl, rfl, rfl, fun _ => rfl⟩
  · rw [hostReset_eq_start, hostReset_eq_start, hinp]

end Sys2Proof.Machine

/-!
PROOF. How symbol decode fails (41_huffman.md R123 to R126): at the end of the input, or after the last count with a
code that no length matched. A complete table leaves no such code.
-/
namespace Sys2Proof.Machine

/-- R123: what the loop finds is a symbol of the table. -/
theorem decodeLoop_mem {inp : List Byte} {symbol counts : List Nat} {code first index s : Nat} {r r' : BitReader}
    (h : decodeLoop inp symbol counts code first index r = .ok (s, r')) : s ∈ symbol := by
  induction counts generalizing code first index r with
  | nil => cases h
  | cons c cs ih =>
    rw [decodeLoop] at h
    split at h
    · cases h
    · dsimp only at h
      split at h
      · split at h
        · rename_i hplace
          cases h
          exact List.mem_of_getElem? hplace
        · cases h
      · exact ih h

/-- One length of the sum of R126: where the codes from the next length on do not fill the values up to `2 * code + b`,
the value at that length, the codes from this length on do not fill those up to `code`. -/
theorem codeSpace_cons_lt {c code first b : Nat} {cs : List Nat} (hb : b ≤ 1)
    (h : 2 * (first + c) * 2 ^ cs.length + 2 * codeSpace cs < 2 * (2 * code + b + 1) * 2 ^ cs.length) :
    first * 2 ^ (cs.length + 1) + 2 * codeSpace (c :: cs) < 2 * (code + 1) * 2 ^ (cs.length + 1) :=
  calc first * 2 ^ (cs.length + 1) + 2 * codeSpace (c :: cs)
      = 2 * (first * 2 ^ cs.length + c * 2 ^ cs.length) + 2 * codeSpace cs := by
        rw [codeSpace, Nat.pow_succ, ← Nat.mul_assoc]
        omega
    _ = 2 * (first + c) * 2 ^ cs.length + 2 * codeSpace cs := by rw [← Nat.add_mul, Nat.mul_assoc]
    _ < 2 * (2 * code + b + 1) * 2 ^ cs.length := h
    _ ≤ 2 * (2 * code + 2) * 2 ^ cs.length := Nat.mul_le_mul_right _ (by omega)
    _ = 2 * (code + 1) * 2 * 2 ^ cs.length := by rw [Nat.mul_add_one 2 code, Nat.mul_comm _ 2]
    _ = 2 * (code + 1) * 2 ^ (cs.length + 1) := by rw [Nat.mul_assoc (2 * (code + 1)), Nat.pow_succ']

/-- All the ways the loop over any counts can fail (R123 to R125), from the value `code` of the bits read so far: the
input ends before the last count; or no length matches, and then the codes there are do not fill the values up to
`code`; or a code points outside the symbol array. -/
theorem decodeLoop_error {inp : List Byte} {symbol counts : List Nat} {code first index : Nat} {r : BitReader}
    {e : Stop} (hr : BitReader.Agrees inp r) (hfirst : first ≤ 2 * code)
    (h : decodeLoop inp symbol counts (2 * code) first index r = .error e) :
    (e = .raise .unexpectedEndOfInput ∧ 8 * inp.length < r.bitpos + counts.length) ∨
    (e = .raise .invalidHuffmanCode ∧ r.bitpos + counts.length ≤ 8 * inp.length ∧
      first * 2 ^ counts.length + 2 * codeSpace counts < 2 * (code + 1) * 2 ^ counts.length) ∨
    e = .symbolOutOfRange := by
  induction counts generalizing code first index r with
  | nil =>
    cases h
    refine .inr (.inl ⟨rfl, agrees_bitpos_le hr, ?_⟩)
    simp only [codeSpace, List.length_nil]
    omega
  | cons c cs ih =>
    rw [decodeLoop] at h
    obtain ⟨hend, hbit⟩ | ⟨-, r', hbit, hpos, hr'⟩ := bits_of_agrees hr (n := 1) (by decide)
    · rw [hbit] at h
      cases h
      exact .inl ⟨rfl, by rw [List.length_cons]; omega⟩
    · simp only [hbit, two_mul_or_inverted_bit code (bits_lt hbit)] at h
      split at h
      · split at h
        · cases h
        · cases h
          exact .inr (.inr rfl)
      · rename_i hnomatch
        simp only [Nat.shiftLeft_eq, Nat.pow_one, Nat.mul_comm _ 2] at h
        rw [List.length_cons]
        obtain ⟨he, hshort⟩ | ⟨he, hlong, hspace⟩ | he := ih hr' (by omega) h
        · exact .inl ⟨he, by omega⟩
        · exact .inr (.inl ⟨he, by omega, codeSpace_cons_lt (Nat.sub_le 1 _) hspace⟩)
        · exact .inr (.inr he)

/-- R124 to R126: a built table has a place in its symbol array for every code that matches, so its decode fails in the
two ways of the rules, and `InvalidHuffmanCode` leaves the table incomplete. -/
theorem decodeSymbol_error {lens : List Nat} {inp : List Byte} {r : BitReader} {e : Stop} (hr : BitReader.Agrees inp r)
    (h : decodeSymbol (buildTable lens) inp r = .error e) :
    (e = .raise .unexpectedEndOfInput ∧ 8 * inp.length < r.bitpos + 13) ∨
    (e = .raise .invalidHuffmanCode ∧ r.bitpos + 13 ≤ 8 * inp.length ∧ kraftSum lens < 2 ^ 13) := by
  obtain ⟨d, hraise⟩ : ∃ d, e = .raise d := by
    obtain ⟨d, hd, -⟩ | ⟨_, _, _, hok, -⟩ := decodeSymbol_readsAs_symbol lens hr
    · exact ⟨d, Except.error.inj (h.symm.trans hd)⟩
    · cases h.symm.trans hok
  have hlen : (buildTable lens).count.toList.length = 13 := Vector.length_toList
  have hsum : codeSpace (buildTable lens).count.toList = kraftSum lens := by rw [buildTable_count, codeSpace_counts]
  have hloop := decodeLoop_error (code := 0) hr (Nat.zero_le _) h
  rw [hlen, hsum] at hloop
  obtain hend | ⟨he, hfit, hspace⟩ | he := hloop
  · exact .inl hend
  · exact .inr ⟨he, hfit, by omega⟩
  · cases hraise.symm.trans he

/-- Settles O10: a decode that fails at a code leaves the sum of R126 below `2 ^ 13`; one that succeeds has read a bit
and found a symbol of the table. -/
theorem completeTableAlwaysMatches : Obligations.CompleteTableAlwaysMatches := by
  intro lens _ hkraft inp r hr
  cases h : decodeSymbol (buildTable lens) inp r with
  | ok y =>
    obtain ⟨s, r'⟩ := y
    obtain ⟨hpos, hr'⟩ := decodeLoop_reaches _ _ 0 0 0 hr s r' h
    exact .inl ⟨s, r', rfl, decodeLoop_mem h, hpos, hr'⟩
  | error e =>
    obtain ⟨rfl, -⟩ | ⟨-, -, hlt⟩ := decodeSymbol_error hr h
    · exact .inr rfl
    · exact absurd hkraft (Nat.ne_of_lt hlt)

/-- Settles O11: the two failures of `decodeSymbol_error`. -/
theorem symbolDecodeFailsByRule : Obligations.SymbolDecodeFailsByRule := by
  intro lens inp r e hr h
  obtain hend | ⟨he, hfit, -⟩ := decodeSymbol_error hr h
  · exact .inl hend
  · exact .inr ⟨he, hfit⟩

end Sys2Proof.Machine

/-!
PROOF. The two arrays of a built table (41_huffman.md R121, R122).
-/
namespace Sys2Proof.Machine

/-- R121: `count[L]` stands at place `L - 1`. -/
theorem buildTable_count_getElem (lens : List Nat) {L : Nat} (h : 1 ≤ L ∧ L ≤ 13) :
    (buildTable lens).count[L - 1]'(by omega) = countOf lens L := by
  simp [buildTable, Nat.sub_add_cancel h.1]

/-- The symbols of one length, asked for by the entry itself: an index in range has one. -/
theorem filter_getElem?_eq_symbolsOf (lens : List Nat) (L : Nat) :
    ((List.range lens.length).filter fun s => lens[s]? == some L) = symbolsOf lens L := by
  refine List.filter_congr fun s hs => ?_
  have hlt := List.mem_range.mp hs
  rw [getD_of_lt 0 hlt, List.getElem?_eq_getElem hlt]
  rfl

/-- R122: the symbol array has as many entries as the counts say. -/
theorem length_buildTable_symbol (lens : List Nat) :
    (buildTable lens).symbol.length = (buildTable lens).count.toList.sum := by
  simp only [buildTable_symbol, buildTable_count, List.length_flatMap, length_symbolsOf]

/-- R122: the symbol array lists the coded symbols. -/
theorem mem_buildTable_symbol {lens : List Nat} {s : Nat} :
    s ∈ (buildTable lens).symbol ↔ ∃ L, lens[s]? = some L ∧ 1 ≤ L ∧ L ≤ 13 := by
  simp only [buildTable_symbol, List.mem_flatMap, mem_symbolsOf, List.mem_range'_1]
  constructor
  · rintro ⟨L, ⟨h1, h14⟩, hlt, hL⟩
    exact ⟨L, by rw [List.getElem?_eq_getElem hlt, ← getD_of_lt 0 hlt, hL], h1, by omega⟩
  · rintro ⟨L, hL, h1, h13⟩
    obtain ⟨hlt, hlen⟩ := List.getElem?_eq_some_iff.mp hL
    exact ⟨L, ⟨h1, by omega⟩, hlt, (getD_of_lt 0 hlt).trans hlen⟩

/-- R122: sorted by code length, and by index within one length. -/
theorem pairwise_buildTable_symbol (lens : List Nat) :
    (buildTable lens).symbol.Pairwise fun s t =>
      lens.getD s 0 < lens.getD t 0 ∨ (lens.getD s 0 = lens.getD t 0 ∧ s < t) := by
  rw [buildTable_symbol, List.pairwise_flatMap]
  constructor
  · intro L _
    refine (List.pairwise_lt_range.filter _).imp_of_mem fun hs ht hlt => .inr ⟨?_, hlt⟩
    rw [(mem_symbolsOf.mp hs).2, (mem_symbolsOf.mp ht).2]
  · refine (List.pairwise_lt_range' (step := 1)).imp fun hlt s hs t ht => .inl ?_
    rwa [(mem_symbolsOf.mp hs).2, (mem_symbolsOf.mp ht).2]

/-- Settles O8: the count of a length is the number of its symbols, and the array lists the lengths one after the
other. -/
theorem tableHoldsCodedSymbolsInOrder : Obligations.TableHoldsCodedSymbolsInOrder := by
  refine fun lens => ⟨fun L h => ?_, length_buildTable_symbol lens, fun _ => mem_buildTable_symbol,
    pairwise_buildTable_symbol lens⟩
  rw [buildTable_count_getElem lens h, filter_getElem?_eq_symbolsOf, length_symbolsOf]

end Sys2Proof.Machine

/-!
PROOF. `InvalidHuffmanCode` in the whole machine (41_huffman.md R126, 60_exceptions.md R202): the default tables are
complete, so no read of an instruction takes it.
-/
namespace Sys2Proof.Machine

/-- The read `x` does not fail with `InvalidHuffmanCode`. -/
def NeverInvalidCode {α : Type} (x : Except Stop (α × BitReader)) : Prop := x ≠ .error (.raise .invalidHuffmanCode)

namespace NeverInvalidCode

variable {α β : Type} {inp : List Byte} {p : Nat} {x : Except Stop (α × BitReader)}

theorem gives (y : α × BitReader) : NeverInvalidCode (.ok y) := nofun

/-- Two reads in a row: the second starts where the first ended. -/
theorem bind {f : α × BitReader → Except Stop (β × BitReader)} (h : NeverInvalidCode x) (hx : Reaches inp p x)
    (hf : ∀ a r, BitReader.Agrees inp r → NeverInvalidCode (f (a, r))) : NeverInvalidCode (x >>= f) := by
  cases x with
  | error e =>
    intro he
    cases he
    exact h rfl
  | ok y => exact hf y.1 y.2 (hx y.1 y.2 rfl).2

end NeverInvalidCode

variable {inp : List Byte} {r : BitReader}

/-- R103 and R105: a raw field fails at the end of the input or is refused. -/
theorem bits_neverInvalidCode (n : Nat) (h : BitReader.Agrees inp r) : NeverInvalidCode (bits inp n r) := by
  intro he
  obtain hn | hn := Nat.lt_or_ge 16 n
  · cases he.symm.trans (bitsAboveSixteenRefused inp n r hn)
  · obtain ⟨-, hend⟩ | ⟨-, r', hok, -⟩ := bits_of_agrees h hn
    · cases he.symm.trans hend
    · cases he.symm.trans hok

/-- R126: a symbol of a complete table. -/
theorem readSymbol_neverInvalidCode {lens : List Nat} (n : Nat) (hkraft : kraftSum lens = 2 ^ 13)
    (h : BitReader.Agrees inp r) : NeverInvalidCode (readSymbol n (some (buildTable lens)) inp r) := by
  intro he
  rw [readSymbol] at he
  split at he
  · rename_i e hdecode
    cases he
    obtain ⟨hend, -⟩ | ⟨-, -, hlt⟩ := decodeSymbol_error h hdecode
    · cases hend
    · exact absurd hkraft (Nat.ne_of_lt hlt)
  · split at he <;> cases he

theorem readHeader_neverInvalidCode (h : BitReader.Agrees inp r) : NeverInvalidCode (readHeader inp r) := by
  refine (bits_neverInvalidCode 8 h).bind (bits_reaches 8 h) fun v0 r0 hr0 => ?_
  dsimp only
  split
  · exact (bits_neverInvalidCode 8 hr0).bind (bits_reaches 8 hr0) fun _ _ _ => .gives _
  · exact nofun

theorem readLiteral_neverInvalidCode {lit : BitVec 1} {T : Option HuffmanTable}
    (hT : lit = 1 → T = some (buildLit tableParams)) (h : BitReader.Agrees inp r) :
    NeverInvalidCode (readLiteral lit T inp r) := by
  unfold readLiteral
  split
  · rename_i hlit
    rw [hT hlit]
    exact (readSymbol_neverInvalidCode 256 kraftSum_litlenSpec h).bind (readSymbol_reaches 256 _ h) fun _ _ _ =>
      .gives _
  · exact (bits_neverInvalidCode 8 h).bind (bits_reaches 8 h) fun _ _ _ => .gives _

theorem readLength_neverInvalidCode (h : BitReader.Agrees inp r) :
    NeverInvalidCode (readLength (some (buildLen tableParams)) inp r) :=
  (readSymbol_neverInvalidCode 16 kraftSum_lenlenSpec h).bind (readSymbol_reaches 16 _ h) fun sym _ hr0 =>
    (bits_neverInvalidCode (lengthExtra sym) hr0).bind (bits_reaches _ hr0) fun _ _ _ => .gives _

theorem readDistance_neverInvalidCode (k : Nat) (h : BitReader.Agrees inp r) :
    NeverInvalidCode (readDistance k (some (buildDist tableParams)) inp r) :=
  (readSymbol_neverInvalidCode 64 kraftSum_distlenSpec h).bind (readSymbol_reaches 64 _ h) fun _ _ hr0 =>
    (bits_neverInvalidCode k hr0).bind (bits_reaches k hr0) fun _ _ _ => .gives _

/-- R202: with the tables of this machine no context reads `InvalidHuffmanCode`. -/
theorem readForm_neverInvalidCode {ctx : Context} (hctx : MachineContext ctx) (h : BitReader.Agrees inp r) :
    NeverInvalidCode (readForm ctx inp r) := by
  cases ctx with
  | header => exact readHeader_neverInvalidCode h
  | unit lit T L =>
    obtain ⟨hT, rfl⟩ := hctx
    refine (bits_neverInvalidCode 1 h).bind (bits_reaches 1 h) fun flag r0 hr0 => ?_
    dsimp only
    split
    · exact readLiteral_neverInvalidCode hT hr0
    · exact readLength_neverInvalidCode hr0
  | distance k T =>
    obtain ⟨-, rfl⟩ := hctx
    exact readDistance_neverInvalidCode k h

/-- A stop of the fetch is a stop of the reading. -/
theorem readForm_of_fetch_error {s : State} {e : Stop} (h : fetch s = .error e) :
    readForm s.context s.inp s.br = .error e := by
  rw [fetch, decode] at h
  split at h
  · rename_i hread
    cases h
    exact hread
  · cases h

/-- Where the invariant holds, a running decoder reads in a context of this machine (R162). -/
theorem inv_machineContext {s : State} (h : s.Inv) (hrun : s.running = true) : MachineContext s.context := by
  obtain ⟨-, hbr, hhist⟩ := inv_running h hrun
  obtain ⟨-, -, -, -, hloop⟩ := h
  cases hphase : s.phase with
  | readHeader => simp only [State.context, hphase, MachineContext]
  | decodeLoop =>
    obtain ⟨hheader, -⟩ := hloop hphase
    have hin : InLoop s.inp s.lit.toNat s.dictBits.toNat s.bitpos s.out s.matchLen s :=
      ⟨hphase, rfl, rfl, rfl, rfl, rfl, rfl, hheader, hbr, hhist⟩
    cases hpending : s.matchLen with
    | none =>
      obtain ⟨hctx, hmachine⟩ := (hpending ▸ hin).context_unit
      exact hctx ▸ hmachine
    | some n =>
      obtain ⟨hctx, hmachine⟩ := (hpending ▸ hin).context_distance
      exact hctx ▸ hmachine
  | done => simp [State.running, hphase] at hrun
  | failed => simp [State.running, hphase] at hrun

/-- R201 and R204: the failures that an instruction itself can take. -/
theorem exec_err {i : Instr} {s t : State} (h : exec i s = .next t) :
    t.err = s.err ∨ t.err = some .invalidHeader ∨ t.err = some .corruptStream := by
  obtain ⟨l, k, -, ⟨-, rfl⟩ | ⟨-, -, rfl⟩⟩ | ⟨b, -, rfl⟩ | ⟨sym, x, -, rfl⟩ | ⟨-, rfl⟩ | ⟨dsym, x, -, htake⟩ :=
    exec_next h
  · exact .inr (.inl rfl)
  · exact .inl rfl
  · exact .inl rfl
  · exact .inl (takeLength_err _ _)
  · exact .inl rfl
  · obtain ⟨n, -, ⟨-, herr, -⟩ | ⟨bs, sw, -, rfl, -⟩⟩ := takeDistance_next htake
    · exact .inr (.inr herr)
    · exact .inl rfl

/-- Settles O35: a failure of the step is the reading's, in a context of this machine, or the instruction's own. -/
theorem invalidHuffmanCodeUnreachable : Obligations.InvalidHuffmanCodeUnreachable := by
  intro s t hinv h
  obtain ⟨hrun, ⟨e, hfetch, rfl⟩ | ⟨i, r, -, hexec⟩⟩ := step_next h
  · obtain ⟨-, hbr, -⟩ := inv_running hinv hrun
    rw [raise_err]
    intro he
    cases he
    exact readForm_neverInvalidCode (inv_machineContext hinv hrun) hbr (readForm_of_fetch_error hfetch)
  · obtain ⟨herr, -, -⟩ := inv_running hinv hrun
    obtain hsame | hfail | hfail := exec_err hexec
    · simp [hsame, herr]
    · simp [hfail]
    · simp [hfail]

end Sys2Proof.Machine

/-!
PROOF. What one `push` and one `read_back` do (42_window.md R141 to R146): a push in its four parts, and `read_back` by
what its history check answers.
-/
namespace Sys2Proof.Machine

/-- Settles O13: one rule of `push` for each cell and register it says something about. -/
theorem pushWritesOneCellAndMovesOn : Obligations.PushWritesOneCellAndMovesOn := by
  intro b w
  refine ⟨read_push_pos b w, fun a ha => read_push_other b ha, push_pos_val b w, ?_⟩
  rw [push_wrapped, push_pos_val, Bool.or_eq_true, beq_iff_eq]

/-- R143, for every window: the check in the registers it looks at. -/
theorem distanceTooFar_iff_registers (w : SlidingWindow) (d : Nat) :
    distanceTooFar w d = true ↔ w.wrapped = false ∧ w.pos.val < d := by
  rw [distanceTooFar, Bool.and_eq_true, Bool.not_eq_true', decide_eq_true_eq]

/-- R143: the check comes first, whatever the cell holds. -/
theorem readBack_of_far {w : SlidingWindow} {d : Nat} (h : distanceTooFar w d = true) :
    readBack d w = .error .distanceTooFar := by
  rw [readBack, if_pos h]

/-- R142: past the check and in the domain, `read_back(d)` is the cell. -/
theorem readBack_of_near {w : SlidingWindow} {d : Nat} {b : Byte} (h : ¬ distanceTooFar w d = true) (h1 : 1 ≤ d)
    (h2 : d ≤ 4096) (hcell : Memory.read w.win (readBackAddr w.pos d) = some b) : readBack d w = .ok b := by
  have hdom : ¬ (d = 0 ∨ 4096 < d) := by omega
  rw [readBack, if_neg h, if_neg hdom, hcell]

/-- Settles O14, by what the history check answers. -/
theorem readBackChecksThenReads : Obligations.ReadBackChecksThenReads := by
  intro d w h1 h2
  rw [← distanceTooFar_iff_registers w d]
  exact ⟨readBack_of_far, fun hnear b hcell => readBack_of_near hnear h1 h2 hcell⟩

/-- Settles O16: inside the output the cell is the output's byte; beyond it the history check fails. -/
theorem readBackReadsTheOutput : Obligations.ReadBackReadsTheOutput := by
  intro out w d h h1 h2
  constructor
  · intro hd
    have hlt : out.length - d < out.length := by omega
    refine ⟨out[out.length - d], List.getElem?_eq_getElem hlt, ?_⟩
    rw [readBack_of_historyAgrees h h1 (by omega), getD_of_lt 0 hlt]
  · intro hd
    exact readBack_of_far ((distanceTooFar_iff h h2).mpr hd)

end Sys2Proof.Machine

/-!
PROOF. The copy of a match (43_decoder.md R168 to R170): the bytes that it appends, named by their place in the history,
the window cells that it leaves alone, and why one validation is enough.
-/
namespace Sys2Proof.Machine

/-- The `n` bytes that a copy from `d` back appends (R170): the last `d` bytes of the output, over and over. -/
def historyBytes (d n : Nat) (out : List Byte) : List Byte :=
  (List.range n).map fun j => out.getD (out.length - d + j % d) 0

@[simp] theorem length_historyBytes (d n : Nat) (out : List Byte) : (historyBytes d n out).length = n := by
  simp [historyBytes]

theorem historyBytes_getElem? {d n j : Nat} {out : List Byte} (hd : 1 ≤ d) (hle : d ≤ out.length) (hj : j < n) :
    (historyBytes d n out)[j]? = out[out.length - d + j % d]? := by
  have hmod : j % d < d := Nat.mod_lt j hd
  have hlt : out.length - d + j % d < out.length := by omega
  rw [historyBytes, List.getElem?_map, List.getElem?_range hj, Option.map_some, getD_of_lt 0 hlt,
    List.getElem?_eq_getElem hlt]

theorem historyBytes_succ (d n : Nat) (out : List Byte) :
    historyBytes d (n + 1) out = historyBytes d n out ++ [out.getD (out.length - d + n % d) 0] := by
  simp [historyBytes, List.range_succ]

/-- The last byte of a copy is read from the output that the bytes before it have made. -/
theorem copy_succ_last (d n : Nat) (out : List Byte) :
    Reference.copy d (n + 1) out =
      Reference.copy d n out ++ [(Reference.copy d n out).getD ((Reference.copy d n out).length - d) 0] := by
  induction n generalizing out with
  | zero => rfl
  | succ n ih => exact ih (out ++ [out.getD (out.length - d) 0])

/-- R170: the byte `d` back, read where `n` bytes were copied already, is the one of the history at `n mod d`. -/
theorem getD_append_historyBytes {d : Nat} {out : List Byte} (n : Nat) (hd : 1 ≤ d) (hle : d ≤ out.length) :
    (out ++ historyBytes d n out).getD ((out ++ historyBytes d n out).length - d) 0 =
      out.getD (out.length - d + n % d) 0 := by
  rw [List.getD_eq_getElem?_getD, List.getD_eq_getElem?_getD, List.length_append, length_historyBytes]
  congr 1
  obtain hn | hn := Nat.lt_or_ge n d
  · have hplace : out.length + n - d = out.length - d + n := by omega
    rw [Nat.mod_eq_of_lt hn, hplace, List.getElem?_append_left (by omega)]
  · have hplace : out.length + n - d = out.length + (n - d) := by omega
    rw [hplace, List.getElem?_append_right (Nat.le_add_right _ _), Nat.add_sub_cancel_left,
      historyBytes_getElem? hd hle (by omega), Nat.mod_eq_sub_mod hn]

/-- R170: what the copy appends. -/
theorem copy_eq_append {d : Nat} {out : List Byte} (n : Nat) (hd : 1 ≤ d) (hle : d ≤ out.length) :
    Reference.copy d n out = out ++ historyBytes d n out := by
  induction n with
  | zero => exact (List.append_nil out).symm
  | succ n ih =>
    rw [copy_succ_last, ih, getD_append_historyBytes n hd hle, historyBytes_succ, List.append_assoc]

/-- R143: what is not too far is not too far when it is nearer. -/
theorem distanceTooFar_antitone {w : SlidingWindow} {d e : Nat} (hle : e ≤ d) (h : distanceTooFar w d = false) :
    distanceTooFar w e = false := by
  rw [← Bool.not_eq_true, distanceTooFar_iff_registers] at h ⊢
  exact fun ⟨hwrapped, hlt⟩ => h ⟨hwrapped, Nat.lt_of_lt_of_le hlt hle⟩

/-- R141 and R143: a push keeps a distance inside the history. -/
theorem distanceTooFar_push {w : SlidingWindow} {d : Nat} (b : Byte) (h1 : 1 ≤ d) (h2 : d ≤ 4096)
    (h : distanceTooFar w d = false) : distanceTooFar (push b w) d = false := by
  obtain ⟨e, rfl⟩ := Nat.exists_eq_add_of_le' h1
  obtain rfl | he := Nat.eq_zero_or_pos e
  · exact distanceTooFar_push_one b w
  · rw [distanceTooFar_push_succ b w (by omega)]
    exact distanceTooFar_antitone (Nat.le_succ e) h

/-- R169 and R170: a copy past the validation that answers a next state has emitted a byte and gone on. -/
theorem copyBytes_succ_of_near {d n : Nat} {s t : State} (hnear : distanceTooFar s.sw d = false)
    (h : copyBytes d (n + 1) s = .next t) : ∃ b, copyBytes d n (emit b s) = .next t := by
  obtain ⟨hfar, -⟩ | ⟨-, -, he⟩ | ⟨-, -, -, ⟨b, -, hb⟩ | ⟨-, he⟩⟩ := readBack_cases d s.sw
  · exact absurd hfar (by simp [hnear])
  · simp [copyBytes, he] at h
  · exact ⟨b, copyBytes_succ_ok hb ▸ h⟩
  · simp [copyBytes, he] at h

/-- Settles O30: the check that passed passes again behind each byte of the copy (`distanceTooFar_push`). -/
theorem oneValidationIsEnough : Obligations.OneValidationIsEnough := by
  intro d n s t h1 h2 hnear h
  induction n generalizing s with
  | zero =>
    cases h
    exact ⟨rfl, rfl, rfl⟩
  | succ n ih =>
    obtain ⟨b, hrest⟩ := copyBytes_succ_of_near hnear h
    obtain ⟨hphase, herr, hlen⟩ := ih (emit b s) (distanceTooFar_push b h1 h2 hnear) hrest
    refine ⟨hphase, herr, ?_⟩
    rw [hlen, emit_out, List.length_append, List.length_singleton]
    omega

/-- R141 and R170: a copy of `n` bytes writes the `n` cells from `pos` on. -/
theorem copyBytes_frame {d n a : Nat} {s t : State} (h1 : 1 ≤ d) (h2 : d ≤ 4096)
    (hnear : distanceTooFar s.sw d = false) (h : copyBytes d n s = .next t)
    (ha : ∀ j, j < n → a ≠ (s.sw.pos.val + j) % 4096) : Memory.read t.sw.win a = Memory.read s.sw.win a := by
  induction n generalizing s with
  | zero =>
    cases h
    rfl
  | succ n ih =>
    obtain ⟨b, hcopy⟩ := copyBytes_succ_of_near hnear h
    have hfirst : a ≠ s.sw.pos.val := by
      have := ha 0 (Nat.succ_pos n)
      rwa [Nat.add_zero, Nat.mod_eq_of_lt s.sw.pos.isLt] at this
    have hrest : ∀ j, j < n → a ≠ ((emit b s).sw.pos.val + j) % 4096 := by
      intro j hj
      rw [emit_sw, push_pos_val, Nat.mod_add_mod, Nat.add_assoc, Nat.add_comm 1 j]
      exact ha (j + 1) (Nat.succ_lt_succ hj)
    rw [ih (distanceTooFar_push b h1 h2 hnear) hcopy hrest, emit_sw, read_push_other b hfirst]

/-- R168 to R170: past the validation, a distance row inside a match is its copy. -/
theorem takeDistance_of_near {dsym : Fin 64} {x n : Nat} {s : State} (hn : s.matchLen = some n)
    (hnear : distanceTooFar s.sw (distanceOf dsym (distanceExtra n s.dictBits) x) = false) :
    takeDistance dsym x s =
      copyBytes (distanceOf dsym (distanceExtra n s.dictBits) x) n { s with matchLen := none } := by
  simp [takeDistance, hn, hnear]

/-- R169: a distance that is too far raises `CorruptStream`. -/
theorem takeDistance_of_far {dsym : Fin 64} {x n : Nat} {s : State} (hn : s.matchLen = some n)
    (hfar : distanceTooFar s.sw (distanceOf dsym (distanceExtra n s.dictBits) x) = true) :
    takeDistance dsym x s = .next (raise .corruptStream s) := by
  simp [takeDistance, hn, hfar]

/-- Settles O29: the validation comes before the copy. -/
theorem distanceTooFarRaises : Obligations.DistanceTooFarRaises := by
  intro i dsym x n s hform hn hwrapped hpos
  have hraise : exec i s = .next (raise .corruptStream s) := by
    rw [exec_eq_execForm, hform]
    exact takeDistance_of_far hn ((distanceTooFar_iff_registers _ _).mpr ⟨hwrapped, hpos⟩)
  exact ⟨hraise, raise .corruptStream s, hraise, rfl, rfl⟩

/-- Settles O28: where window and output agree the copy is the one on the output alone (`copyBytes_eq_copy`), and its
bytes are those of the history (`copy_eq_append`). -/
theorem matchCopiesFromHistory : Obligations.MatchCopiesFromHistory := by
  intro i dsym x n s hform hn hhist hle
  generalize hd : distanceOf dsym (distanceExtra n s.dictBits) x = d at hle
  have hd1 : 1 ≤ d := hd ▸ Nat.le_add_left 1 _
  have hnear : distanceTooFar s.sw d = false := by
    rw [← Bool.not_eq_true, distanceTooFar_iff hhist (by omega)]
    omega
  obtain ⟨sw, hcopy, hsw⟩ := copyBytes_eq_copy (n := n) (s := { s with matchLen := none }) hhist hd1 hle
  simp only [copy_eq_append n hd1 (show d ≤ s.out.length by omega)] at hcopy hsw
  refine ⟨historyBytes d n s.out, sw, ?_, length_historyBytes d n s.out,
    fun j hj => historyBytes_getElem? hd1 (by omega) hj, hsw, fun a ha => ?_⟩
  · rw [exec_eq_execForm, hform, execForm, takeDistance_of_near hn (hd.symm ▸ hnear), hd, hcopy]
  · exact copyBytes_frame (s := { s with matchLen := none }) hd1 (by omega) hnear hcopy ha

end Sys2Proof.Machine

/-!
PROOF. What each unit does to the whole state (43_decoder.md R162 to R171): the rows by their shapes, and a step of a
running decoder by what its bits are.
-/
namespace Sys2Proof.Machine

theorem running_iff {s : State} : s.running = true ↔ s.phase = .readHeader ∨ s.phase = .decodeLoop := by
  simp [State.running]

theorem phase_ne_failed_of_running {s : State} (h : s.running = true) : s.phase ≠ .failed :=
  fun hp => by simp [State.running, hp] at h

/-- What a step that answers has run, by the shape read. -/
theorem execForm_of_step {s t : State} {f : Form} {r : BitReader}
    (hread : readForm s.context s.inp s.br = .ok (f, r)) (h : step s = .next t) :
    execForm f (s.advance r) = .next t := by
  obtain ⟨hrun, -⟩ := step_next h
  exact (step_of_readForm hrun hread).symm.trans h

/-! The three places where bits are read (R160, R163, R168). -/

theorem context_of_readHeader {s : State} (hphase : s.phase = .readHeader) : s.context = .header := by
  simp only [State.context, hphase]

theorem context_of_boundary {s : State} (hphase : s.phase = .decodeLoop) (hm : s.matchLen = none) :
    s.context = .unit s.lit s.litTable s.lenTable := by
  simp only [State.context, hphase, hm]

theorem context_of_pending {s : State} {n : Nat} (hphase : s.phase = .decodeLoop) (hn : s.matchLen = some n) :
    s.context = .distance (distanceExtra n s.dictBits) s.distTable := by
  simp only [State.context, hphase, hn]

theorem legalLit_iff (l : Byte) : legalLit l = true ↔ l.toNat ≤ 1 := decide_eq_true_iff

theorem legalDictBits_iff (k : Byte) : legalDictBits k = true ↔ 4 ≤ k.toNat ∧ k.toNat ≤ 6 := by
  rw [legalDictBits, Bool.and_eq_true, decide_eq_true_iff, decide_eq_true_iff]

/-- R162: with legal bytes the header step loads them and the tables. -/
theorem takeHeader_of_legal {l k : Byte} (hl : legalLit l = true) (hk : legalDictBits k = true) (s : State) :
    takeHeader tableParams l k s = .next (loadHeader tableParams l k s) := by
  obtain ⟨hbad, -⟩ | ⟨-, -, he⟩ := takeHeader_cases l k s
  · simp [hl, hk] at hbad
  · exact he

/-- R201: with an illegal byte it raises `InvalidHeader`. -/
theorem takeHeader_of_illegal {l k : Byte} (h : ¬ (legalLit l = true ∧ legalDictBits k = true)) (s : State) :
    takeHeader tableParams l k s = .next (raise .invalidHeader s) := by
  obtain ⟨-, he⟩ | ⟨hl, hk, -⟩ := takeHeader_cases l k s
  · exact he
  · exact absurd ⟨hl, hk⟩ h

theorem byte_eq_one_iff (l : Byte) : l = 1 ↔ l.toNat = 1 :=
  ⟨congrArg BitVec.toNat, fun h => BitVec.eq_of_toNat_eq h⟩

/-- Settles O17: legal bytes leave the one branch of the header step. -/
theorem legalHeaderBuildsTables : Obligations.LegalHeaderBuildsTables := by
  intro l k s hl hk4 hk6
  rw [exec_eq_execForm]
  simp only [Instr.form, execForm, takeHeader_of_legal ((legalLit_iff l).mpr hl) ((legalDictBits_iff k).mpr ⟨hk4, hk6⟩),
    loadHeader, byte_eq_one_iff]
  rfl

/-- Settles O20: LIT.RAW emits its byte, and a push writes one cell. -/
theorem rawLiteralEmitsItsByte : Obligations.RawLiteralEmitsItsByte :=
  fun b s => ⟨rfl, read_push_pos b s.sw, fun _ ha => read_push_other b ha⟩

/-- Settles O21: the shape decides the meaning (`exec_eq_execForm`), and every byte has its row (`litHufRow_form`). -/
theorem huffmanLiteralEmitsItsByte : Obligations.HuffmanLiteralEmitsItsByte := by
  refine ⟨fun i b s hform => ⟨?_, read_push_pos b s.sw, fun _ ha => read_push_other b ha⟩, litHufRow_form⟩
  rw [exec_eq_execForm, hform]
  rfl

/-- Settles O25: the shape decides the meaning, and every symbol with fitting extra bits has its row. -/
theorem matchLengthIsAssembled : Obligations.MatchLengthIsAssembled := by
  refine ⟨fun i sym x s hform => ?_, fun sym x hx => matchRow_form hx⟩
  rw [exec_eq_execForm, hform, execForm]
  by_cases hend : lengthOf sym x = endLength
  · rw [hend, takeLength_end]
    exact (if_pos hend).symm
  · rw [takeLength_copy hend]
    exact (if_neg hend).symm

/-- Settles O33: the phase decides. -/
theorem doneAndFailedAreTerminal : Obligations.DoneAndFailedAreTerminal :=
  fun s => ⟨fun h => ⟨by rw [step, h], by rw [State.outcome, h]⟩, fun h => ⟨by rw [step, h], by rw [State.outcome, h]⟩⟩

/-- Settles O36: a running decoder reads and runs (`step_eq_runNext`), and phase and pending length give the context. -/
theorem stepRunsTheDecodedInstruction : Obligations.StepRunsTheDecodedInstruction := by
  intro s hrun
  rw [step_eq_runNext hrun]
  refine ⟨fun i r h => ?_, fun e h => ?_, context_of_readHeader, context_of_boundary, fun _ => context_of_pending⟩
  · rw [runNext, fetch, h]
    rfl
  · rw [runNext, fetch, h]
    rfl

/-- R167: 519 is the last length of the last symbol. -/
theorem lengthOf_eq_end_iff {sym : Fin 16} {x : Nat} (hx : x < 2 ^ lengthExtra sym) :
    lengthOf sym x = 519 ↔ sym = 15 ∧ x = 255 := by
  constructor
  · intro h
    exact lengthOf_inj (sym := 15) (x := 255) (by decide) hx h
  · rintro ⟨rfl, rfl⟩
    rfl

theorem takeDistance_phase {dsym : Fin 64} {x : Nat} {s t : State} (h : takeDistance dsym x s = .next t) :
    t.phase = s.phase ∨ t.phase = .failed := by
  obtain ⟨n, -, ⟨hfail, -⟩ | ⟨bs, sw, -, rfl, -⟩⟩ := takeDistance_next h
  · exact .inr hfail
  · exact .inl rfl

/-- R167: Done is reached by reading END alone. -/
theorem fetch_of_step_done {s t : State} (h : step s = .next t) (hdone : t.phase = .done) :
    ∃ r, fetch s = .ok (.endStream, r) ∧ t = finish (s.advance r) := by
  obtain ⟨hrun, ⟨e, -, rfl⟩ | ⟨i, r, hfetch, -⟩⟩ := step_next h
  · cases hdone
  · obtain ⟨f, hread, rfl⟩ := decode_ok hfetch
    have hexec := execForm_of_step hread h
    obtain ⟨-, l, k, rfl⟩ | ⟨hphase, ⟨b, rfl | rfl⟩ | rfl | ⟨sym, x, rfl, hne, -⟩ | ⟨n, dsym, x, -, rfl, -⟩⟩ :=
      readForm_by_phase hrun hread
    · obtain ⟨-, he⟩ | ⟨-, -, he⟩ := takeHeader_cases l k (s.advance r)
      · cases he.symm.trans hexec
        cases hdone
      · cases he.symm.trans hexec
        cases hdone
    · cases hexec
      cases hphase.symm.trans hdone
    · cases hexec
      cases hphase.symm.trans hdone
    · cases hexec
      exact ⟨r, hfetch, rfl⟩
    · rw [execForm, takeLength_copy hne] at hexec
      cases hexec
      cases hphase.symm.trans hdone
    · obtain hsame | hfail := takeDistance_phase hexec
      · cases hphase.symm.trans (hsame.symm.trans hdone)
      · cases hfail.symm.trans hdone

/-- Settles O26: END itself by evaluation, 519 by the one encoding of each length (`lengthOf_inj`), and Done by the
inversion of a step. -/
theorem endDeliversTheOutput : Obligations.EndDeliversTheOutput := by
  refine ⟨fun s => ⟨rfl, fun t h => ?_⟩, fun _ _ => lengthOf_eq_end_iff, fun _ _ => fetch_of_step_done⟩
  cases h
  rfl

end Sys2Proof.Machine

/-!
PROOF. Whole units at the machine's level (43_decoder.md R161 to R165): what the bits at the reader's position are, and
what the step then does.
-/
namespace Sys2Proof.Machine

theorem step_raises {s : State} {e : DecodeError} (hrun : s.running = true)
    (h : readForm s.context s.inp s.br = .error (.raise e)) : FailsWith (step s) e :=
  ⟨raise e s, step_of_readForm_error hrun h, rfl, rfl⟩

/-- Where the bits of a shape are next, the step runs the shape. -/
theorem step_of_decodesAs {s : State} {f : Form} {c : List Bool} (hrun : s.running = true)
    (hr : BitReader.Agrees s.inp s.br) (hcode : DecodesAs (readForm s.context) c f) (hs : StreamHas s.inp s.bitpos c) :
    ∃ r, r.bitpos = s.bitpos + c.length ∧ BitReader.Agrees s.inp r ∧ step s = execForm f (s.advance r) := by
  obtain ⟨r, hread, hpos, hagr⟩ := hcode s.inp s.br hr hs
  exact ⟨r, hpos, hagr, step_of_readForm hrun hread⟩

section
variable {inp : List Byte} {lit : BitVec 1} {T L : Option HuffmanTable} {r : BitReader}

/-- R103 and R163: no flag is left. -/
theorem readUnit_of_end (hr : BitReader.Agrees inp r) (hend : 8 * inp.length < r.bitpos + 1) :
    readForm (.unit lit T L) inp r = .error (.raise .unexpectedEndOfInput) := by
  obtain ⟨-, he⟩ | ⟨hfit, -⟩ := bits_of_agrees hr (n := 1) (by decide)
  · rw [readForm, he]
    rfl
  · omega

/-- R103 and R164: the flag of a literal, and no 8 bits behind it. -/
theorem readUnit_of_truncated_literal (hlit : lit ≠ 1) (hr : BitReader.Agrees inp r)
    (hflag : StreamHas inp r.bitpos [false]) (hend : 8 * inp.length < r.bitpos + 9) :
    readForm (.unit lit T L) inp r = .error (.raise .unexpectedEndOfInput) := by
  obtain ⟨r₁, hread, hpos, hr₁⟩ := bit_decodesAs false inp r hr hflag
  obtain ⟨-, he⟩ | ⟨hfit, -⟩ := bits_of_agrees hr₁ (n := 8) (by decide)
  · have hliteral : readLiteral lit T inp r₁ = .error (.raise .unexpectedEndOfInput) := by
      rw [readLiteral, if_neg hlit, he]
      rfl
    dsimp only at hread
    rw [readForm, hread]
    exact hliteral
  · rw [List.length_singleton] at hpos
    omega

/-- R101: a byte from a byte boundary on. -/
theorem bits_of_byte {i : Nat} {b : Byte} (hr : BitReader.Agrees inp r) (hpos : r.bitpos = 8 * i)
    (hb : inp[i]? = some b) :
    ∃ r', bits inp 8 r = .ok (b.toNat, r') ∧ r'.bitpos = 8 * (i + 1) ∧ BitReader.Agrees inp r' := by
  obtain ⟨hlt, -⟩ := List.getElem?_eq_some_iff.mp hb
  obtain ⟨hend, -⟩ | ⟨-, r', hok, hpos', hr'⟩ := bits_of_agrees hr (n := 8) (by decide)
  · omega
  · rw [hpos, streamField_byte hb] at hok
    exact ⟨r', hok, by omega, hr'⟩

/-- R103: no byte is left. -/
theorem bits_of_no_byte {i : Nat} (hr : BitReader.Agrees inp r) (hpos : r.bitpos = 8 * i) (hlen : inp.length = i) :
    bits inp 8 r = .error (.raise .unexpectedEndOfInput) := by
  obtain ⟨-, he⟩ | ⟨hfit, -⟩ := bits_of_agrees hr (n := 8) (by decide)
  · exact he
  · omega

end

/-- Settles O22: the flag and the byte read back (`readLiteral_raw_decodesAs`), or one of the two requests for bits
meets the end of the input. -/
theorem rawLiteralUnitStep : Obligations.RawLiteralUnitStep := by
  intro s hphase hm hlit hr
  have hrun := running_iff.mpr (.inr hphase)
  have hctx := context_of_boundary hphase hm
  refine ⟨fun b hs => ?_, fun hflag hend => step_raises hrun ?_, fun hend => step_raises hrun ?_⟩
  · exact step_of_decodesAs hrun hr (hctx ▸ flag_decodesAs (flag := false) (readLiteral_raw_decodesAs _ hlit b)) hs
  · rw [hctx]
    exact readUnit_of_truncated_literal hlit hr hflag hend
  · rw [hctx]
    exact readUnit_of_end hr (by rw [hend]; exact Nat.lt_succ_self _)

/-- Settles O23: the flag and the code of the byte read back (`litSymbol_decodesAs`). -/
theorem huffmanLiteralUnitStep : Obligations.HuffmanLiteralUnitStep := by
  intro s hphase hm hlit hheader hr b c hc hs
  obtain ⟨htable, -⟩ := hheader
  obtain ⟨c', hc', hsymbol⟩ := litSymbol_decodesAs b.toFin
  cases hc.symm.trans hc'
  have hctx := context_of_boundary hphase hm
  rw [htable hlit, hlit] at hctx
  obtain ⟨r, hpos, hagr, hstep⟩ := step_of_decodesAs (running_iff.mpr (.inr hphase)) hr
    (hctx ▸ flag_decodesAs (flag := false) (readLiteral_coded_decodesAs hsymbol)) hs
  exact ⟨r, by rw [hpos, List.length_cons]; omega, hagr, hstep⟩

/-! The header on an input given by its first bytes (R161): byte 0 is checked before byte 1 is asked for. -/

theorem readHeader_empty : readHeader [] BitReader.init = .error (.raise .unexpectedEndOfInput) := rfl

theorem readHeader_illegal_first {v0 : Byte} (rest : List Byte) (hl : legalLit v0 = false) :
    readHeader (v0 :: rest) BitReader.init = .error (.raise .invalidHeader) := by
  obtain ⟨r, hread, -⟩ := bits_of_byte (agrees_init (v0 :: rest)) (i := 0) rfl rfl
  simp [readHeader, hread, hl, bind, Except.bind, throw, throwThe, MonadExceptOf.throw]

theorem readHeader_one_byte {v0 : Byte} (hl : legalLit v0 = true) :
    readHeader [v0] BitReader.init = .error (.raise .unexpectedEndOfInput) := by
  obtain ⟨r, hread, hpos, hr⟩ := bits_of_byte (agrees_init [v0]) (i := 0) rfl rfl
  simp [readHeader, hread, hl, bits_of_no_byte hr hpos rfl, bind, Except.bind]

theorem readHeader_two_bytes {v0 : Byte} (v1 : Byte) (rest : List Byte) (hl : legalLit v0 = true) :
    ∃ r, readHeader (v0 :: v1 :: rest) BitReader.init = .ok (.hdr v0 v1, r) ∧ r.bitpos = 16 := by
  obtain ⟨r₁, hread₁, hpos₁, hr₁⟩ := bits_of_byte (agrees_init (v0 :: v1 :: rest)) (i := 0) rfl rfl
  obtain ⟨r₂, hread₂, hpos₂, -⟩ := bits_of_byte hr₁ (i := 1) hpos₁ rfl
  exact ⟨r₂, by simp [readHeader, hread₁, hl, hread₂, bind, Except.bind, pure, Except.pure], hpos₂⟩

/-- R161 and R162: with two legal bytes the start has read them and loads them. -/
theorem step_start_of_legal {v0 v1 : Byte} (rest : List Byte) (hl : legalLit v0 = true)
    (hk : legalDictBits v1 = true) :
    ∃ r, step (State.start (v0 :: v1 :: rest)) =
        .next (loadHeader tableParams v0 v1 ((State.start (v0 :: v1 :: rest)).advance r)) ∧ r.bitpos = 16 := by
  obtain ⟨r, hread, hpos⟩ := readHeader_two_bytes v1 rest hl
  exact ⟨r, (step_of_readForm (s := State.start _) rfl hread).trans (takeHeader_of_legal hl hk _), hpos⟩

/-- R201: with an illegal second byte the header step raises `InvalidHeader`. -/
theorem step_start_of_illegal_second {v0 v1 : Byte} (rest : List Byte) (hl : legalLit v0 = true)
    (hk : ¬ legalDictBits v1 = true) : FailsWith (step (State.start (v0 :: v1 :: rest))) .invalidHeader := by
  obtain ⟨r, hread, -⟩ := readHeader_two_bytes v1 rest hl
  have hbad : ¬ (legalLit v0 = true ∧ legalDictBits v1 = true) := fun ⟨_, hlegal⟩ => hk hlegal
  have hraise := takeHeader_of_illegal hbad ((State.start (v0 :: v1 :: rest)).advance r)
  exact ⟨_, (step_of_readForm (s := State.start _) rfl hread).trans hraise, rfl, rfl⟩

/-- The coding mode is kept in one bit (R27). -/
theorem setWidth_of_legalLit {v : Byte} (hl : legalLit v = true) : (v.setWidth 1).toNat = v.toNat := by
  have hle := (legalLit_iff v).mp hl
  rw [BitVec.toNat_setWidth]
  omega

/-- Settles O19: one lemma for each way the first bytes of the input can be. -/
theorem headerStepOnEveryInput : Obligations.HeaderStepOnEveryInput := by
  simp only [Obligations.HeaderStepOnEveryInput, ← legalLit_iff]
  refine ⟨step_raises rfl readHeader_empty, fun v0 rest hbad => ?_, fun v0 hl => ?_, fun v0 v1 rest hl hbad => ?_,
    fun v0 v1 rest hl h4 h6 => ?_⟩
  · have hl : legalLit v0 = false := by rw [← Bool.not_eq_true, legalLit_iff]; omega
    exact step_raises rfl (readHeader_illegal_first rest hl)
  · exact step_raises rfl (readHeader_one_byte hl)
  · have hk : ¬ legalDictBits v1 = true := by rw [legalDictBits_iff]; omega
    exact step_start_of_illegal_second rest hl hk
  · obtain ⟨r, hstep, hpos⟩ := step_start_of_legal rest hl ((legalDictBits_iff v1).mpr ⟨h4, h6⟩)
    refine ⟨_, hstep, rfl, setWidth_of_legalLit hl, rfl, hpos, rfl, rfl, rfl, ?_, rfl, rfl⟩
    simp only [loadHeader_litTable, byte_eq_one_iff]
    rfl

end Sys2Proof.Machine

/-!
PROOF. Progress of the decoder (43_decoder.md R160, R174): which phase follows which, that a running decoder always
steps, that every decode ends, and that a whole unit ends at a unit boundary.
-/
namespace Sys2Proof.Machine

/-- A read that goes as the reference's fails by a failure of the hardware or gives a value; it meets no other stop. -/
theorem ReadsAs.answers {α β : Type} {inp : List Byte} {p : Nat} {R : α → β → Prop}
    {x : Except Stop (α × BitReader)} {y : Except DecodeError (β × Nat)} (h : ReadsAs inp p R x y) :
    (∃ e, x = .error (.raise e)) ∨ ∃ a r, x = .ok (a, r) := by
  obtain ⟨e, hx, -⟩ | ⟨a, _, r, hx, -⟩ := h
  · exact .inl ⟨e, hx⟩
  · exact .inr ⟨a, r, hx⟩

/-- R8, R23 and R105: reading in a context of this machine meets no stop without a meaning. -/
theorem readForm_answers {ctx : Context} {inp : List Byte} {r : BitReader} (hctx : MachineContext ctx)
    (h : BitReader.Agrees inp r) :
    (∃ e, readForm ctx inp r = .error (.raise e)) ∨ ∃ f r', readForm ctx inp r = .ok (f, r') := by
  cases ctx with
  | header => exact (readHeader_readsAs h).answers
  | unit lit T L => exact (readUnit_readsAs hctx h).answers
  | distance k T => exact (readDistance_readsAs hctx h).answers

/-- R168 to R170: under the invariant a distance row fails or copies. -/
theorem takeDistance_answers {s : State} {r : BitReader} {n : Nat} {dsym : Fin 64} {x : Nat} (hinv : s.Inv)
    (hphase : s.phase = .decodeLoop) (hn : s.matchLen = some n) (hx : x < 2 ^ distanceExtra n s.dictBits) :
    ∃ t, takeDistance dsym x (s.advance r) = .next t := by
  obtain ⟨-, -, hhist⟩ := inv_running hinv (running_iff.mpr (.inr hphase))
  obtain ⟨-, -, -, -, hloop⟩ := hinv
  obtain ⟨⟨-, -, -, hdict⟩, -⟩ := hloop hphase
  obtain ⟨-, hfail⟩ | ⟨-, sw, hcopy, -⟩ := takeDistance_eq_copy (dsym := dsym) (s := s.advance r) hn hhist rfl
    (distanceOf_le (distanceExtra_le hdict) hx)
  · exact ⟨_, hfail⟩
  · exact ⟨_, hcopy⟩

/-- Settles O45: in a context of this machine the read answers (`readForm_answers`), and so does what was read; the
header by the well-formed tables, the distance by the agreement of window and output. -/
theorem runningDecoderAlwaysSteps : Obligations.RunningDecoderAlwaysSteps := by
  intro s hinv hrun
  obtain ⟨-, hbr, -⟩ := inv_running hinv hrun
  obtain ⟨e, he⟩ | ⟨f, r, hread⟩ := readForm_answers (inv_machineContext hinv hrun) hbr
  · exact ⟨raise e s, step_of_readForm_error hrun he⟩
  · rw [step_of_readForm hrun hread]
    obtain ⟨-, l, k, rfl⟩ | ⟨hphase, ⟨b, rfl | rfl⟩ | rfl | ⟨sym, x, rfl, -⟩ | ⟨n, dsym, x, hn, rfl, hx⟩⟩ :=
      readForm_by_phase hrun hread
    · obtain ⟨-, hfail⟩ | ⟨-, -, hload⟩ := takeHeader_cases l k (s.advance r)
      · exact ⟨_, hfail⟩
      · exact ⟨_, hload⟩
    · exact ⟨_, rfl⟩
    · exact ⟨_, rfl⟩
    · exact ⟨_, rfl⟩
    · exact ⟨_, rfl⟩
    · exact takeDistance_answers hinv hphase hn hx

/-- R160: a decoder that is not running has ended. -/
theorem ended_of_not_running {s : State} (h : s.running = false) : s.phase = .done ∨ s.phase = .failed := by
  cases hp : s.phase <;> simp_all [State.running]

/-- R174: a decoder that meets the invariant ends within as many steps as there are bits left and one more. -/
theorem run_ends {s : State} (hinv : s.Inv) (hrun : s.running = true) :
    ∃ k t, k ≤ 8 * s.inp.length - s.bitpos + 1 ∧ Sys2Proof.core.run k s = .next t ∧
      (t.phase = .done ∨ t.phase = .failed) := by
  induction hleft : 8 * s.inp.length - s.bitpos using Nat.strongRecOn generalizing s with
  | _ left ih =>
    obtain ⟨t, hstep⟩ := runningDecoderAlwaysSteps s hinv hrun
    cases htrun : t.running with
    | false => exact ⟨1, t, Nat.le_add_left 1 left, core_run_succ 0 hstep, ended_of_not_running htrun⟩
    | true =>
      have hinp := inputIsNeverWritten s t hstep
      obtain ⟨hlt, hle⟩ := bitPositionMovesForward s t hinv hstep (phase_ne_failed_of_running htrun)
      rw [hinp] at hle
      obtain ⟨k, u, hk, hu, hend⟩ := ih (8 * t.inp.length - t.bitpos) (by rw [hinp]; omega)
        (stepKeepsInvariant s t hinv hstep) htrun rfl
      rw [hinp] at hk
      exact ⟨k + 1, u, by omega, (core_run_succ k hstep).trans hu, hend⟩

/-- Settles O46: each step that leaves the decoder running takes a bit (`bitPositionMovesForward`), so the bits left
bound the steps. -/
theorem everyDecodeEnds : Obligations.EveryDecodeEnds :=
  fun inp => run_ends (inv_start inp) rfl

/-- Settles O37, by the inversion of a step. -/
theorem phasesFollowTheStateMachine : Obligations.PhasesFollowTheStateMachine := by
  intro s t h
  obtain ⟨hrun, -⟩ := step_next h
  have hphase := running_iff.mp hrun
  obtain ⟨hfail, -⟩ | ⟨f, r, -, hc⟩ := step_cases h
  · exact hphase.imp (fun hp => ⟨hp, .inr hfail⟩) fun hp => ⟨hp, .inr (.inr hfail)⟩
  · cases hc with
    | header hp => exact .inl ⟨hp, .inl rfl⟩
    | literal b hp => exact .inr ⟨hp, .inl hp⟩
    | length hp => exact .inr ⟨hp, .inl hp⟩
    | ended hp => exact .inr ⟨hp, .inr (.inl rfl)⟩
    | copied hp => exact .inr ⟨hp, .inl hp⟩

/-- A copy starts no match, whether it ends or fails. -/
theorem copyBytes_matchLen {d n : Nat} {s t : State} (h : copyBytes d n s = .next t) (hs : s.matchLen = none) :
    t.matchLen = none := by
  induction n generalizing s with
  | zero =>
    cases h
    exact hs
  | succ n ih =>
    rw [copyBytes] at h
    split at h
    · exact ih h hs
    · cases h
      rfl
    · cases h
    · cases h

/-- R168 to R170: a distance row leaves no match in progress, whether it copied or failed. -/
theorem takeDistance_matchLen {dsym : Fin 64} {x : Nat} {s t : State} (h : takeDistance dsym x s = .next t) :
    t.matchLen = none := by
  obtain ⟨n, hn, -⟩ := takeDistance_next h
  cases hfar : distanceTooFar s.sw (distanceOf dsym (distanceExtra n s.dictBits) x) with
  | true =>
    rw [takeDistance_of_far hn hfar] at h
    cases h
    rfl
  | false =>
    rw [takeDistance_of_near hn hfar] at h
    exact copyBytes_matchLen h rfl

/-- R160: only the length part of a match leaves a match in progress, and the decoder running. -/
theorem step_matchLen_of_boundary {s t : State} (h : step s = .next t) (hs : s.matchLen = none) :
    t.matchLen = none ∨ t.running = true := by
  obtain ⟨hrun, ⟨e, -, rfl⟩ | ⟨i, r, -, hexec⟩⟩ := step_next h
  · exact .inl rfl
  · obtain ⟨l, k, -, ⟨-, rfl⟩ | ⟨-, -, rfl⟩⟩ | ⟨b, -, rfl⟩ | ⟨sym, x, -, rfl⟩ | ⟨-, rfl⟩ | ⟨dsym, x, -, htake⟩ :=
      exec_next hexec
    · exact .inl rfl
    · exact .inr rfl
    · exact .inl hs
    · by_cases hend : lengthOf sym x = endLength
      · exact .inl (by rw [hend, takeLength_end]; exact hs)
      · exact .inr (by rw [takeLength_copy hend]; exact hrun)
    · exact .inl hs
    · exact .inl (takeDistance_matchLen htake)

/-- R168: between the parts of a match the next step reads its distance, and leaves no match in progress. -/
theorem step_matchLen_of_pending {s t : State} {n : Nat} (hphase : s.phase = .decodeLoop) (hn : s.matchLen = some n)
    (h : step s = .next t) : t.matchLen = none := by
  obtain ⟨-, ⟨e, -, rfl⟩ | ⟨i, r, hfetch, -⟩⟩ := step_next h
  · rfl
  · obtain ⟨f, hread, -⟩ := decode_ok hfetch
    have hexec := execForm_of_step hread h
    rw [context_of_pending hphase hn] at hread
    obtain ⟨dsym, x, rfl, -⟩ := readForm_ok hread
    exact takeDistance_matchLen hexec

/-- R160: where the invariant holds, a match is in progress in the decode loop only. -/
theorem inv_phase_of_pending {s : State} {n : Nat} (hinv : s.Inv) (hrun : s.running = true)
    (hn : s.matchLen = some n) : s.phase = .decodeLoop := by
  obtain ⟨-, -, -, hheader, -⟩ := hinv
  exact (running_iff.mp hrun).resolve_left fun hp => by simpa [hn] using (hheader hp).2

/-- Settles O38: a step from a unit boundary ends at one, or it read the length of a match; then the next step, which
there is (`runningDecoderAlwaysSteps`), ends at one. -/
theorem unitsAreAtomic : Obligations.UnitsAreAtomic := by
  intro s hinv hrun hs
  obtain ⟨t, hstep⟩ := runningDecoderAlwaysSteps s hinv hrun
  have ht := stepKeepsInvariant s t hinv hstep
  rw [unitStep, hstep]
  dsimp only
  cases hm : t.matchLen with
  | none => exact ⟨t, by simp, hm, ht⟩
  | some n =>
    have htrun : t.running = true := (step_matchLen_of_boundary hstep hs).resolve_left (by simp [hm])
    have hphase : t.phase = .decodeLoop := inv_phase_of_pending ht htrun hm
    obtain ⟨u, hu⟩ := runningDecoderAlwaysSteps t ht htrun
    exact ⟨u, by simpa [htrun] using hu, step_matchLen_of_pending hphase hm hu, stepKeepsInvariant t u ht hu⟩

end Sys2Proof.Machine

/-!
PROOF. A read has read a code: whatever an instruction was read as, the bits that it took read the same wherever they
stand (00_scope.md R11, 40_bitreader.md R101, 41_huffman.md R123). So a read depends on the bits it took, and not on the
input behind them.
-/
namespace Sys2Proof.Machine

/-- The `n` bits of the stream from position `p` on. -/
def streamBits (inp : List Byte) (p n : Nat) : List Bool := (List.range n).map fun i => streamBit inp (p + i)

@[simp] theorem length_streamBits (inp : List Byte) (p n : Nat) : (streamBits inp p n).length = n := by
  simp [streamBits]

theorem streamField_eq_natOfBits (inp : List Byte) (p n : Nat) :
    streamField inp p n = natOfBits (streamBits inp p n) := rfl

theorem streamHas_streamBits {inp : List Byte} {p n : Nat} (h : p + n ≤ 8 * inp.length) :
    StreamHas inp p (streamBits inp p n) := by
  refine ⟨by rwa [length_streamBits], fun j hj => ?_⟩
  rw [length_streamBits] at hj
  rw [streamBits, List.getElem?_map, List.getElem?_range hj, Option.map_some]

/-- The converse of `streamHas_append`. -/
theorem StreamHas.append {inp : List Byte} {p : Nat} {c d : List Bool} (hc : StreamHas inp p c)
    (hd : StreamHas inp (p + c.length) d) : StreamHas inp p (c ++ d) := by
  obtain ⟨-, hcbit⟩ := hc
  obtain ⟨hfit, hdbit⟩ := hd
  refine ⟨by rw [List.length_append]; omega, fun j hj => ?_⟩
  rw [List.length_append] at hj
  obtain hlt | hge := Nat.lt_or_ge j c.length
  · rw [List.getElem?_append_left hlt, hcbit j hlt]
  · have hplace : p + c.length + (j - c.length) = p + j := by omega
    rw [List.getElem?_append_right hge, hdbit (j - c.length) (by omega), hplace]

/-- `inp'` has bits up to `p`, and they are those of `inp`. -/
def SameBits (inp inp' : List Byte) (p : Nat) : Prop :=
  p ≤ 8 * inp'.length ∧ ∀ j, j < p → streamBit inp' j = streamBit inp j

theorem SameBits.mono {inp inp' : List Byte} {p q : Nat} (h : SameBits inp inp' p) (hle : q ≤ p) :
    SameBits inp inp' q := by
  obtain ⟨hfit, hbits⟩ := h
  exact ⟨Nat.le_trans hle hfit, fun j hj => hbits j (Nat.lt_of_lt_of_le hj hle)⟩

theorem SameBits.streamHas {inp inp' : List Byte} {p : Nat} {c : List Bool} (h : SameBits inp inp' (p + c.length))
    (hc : StreamHas inp p c) : StreamHas inp' p c := by
  obtain ⟨hfit, hbits⟩ := h
  obtain ⟨-, hbit⟩ := hc
  exact ⟨hfit, fun j hj => by rw [hbit j hj, hbits (p + j) (by omega)]⟩

/-- Whatever `read` gives, it has read a code of that value. -/
def ReadsCode {α : Type} (read : List Byte → BitReader → Except Stop (α × BitReader)) : Prop :=
  ∀ (inp : List Byte) (r : BitReader) (a : α) (q : BitReader), BitReader.Agrees inp r → read inp r = .ok (a, q) →
    ∃ c, StreamHas inp r.bitpos c ∧ DecodesAs read c a

namespace ReadsCode

variable {α β : Type}

theorem gives {read : List Byte → BitReader → Except Stop (α × BitReader)} (a : α)
    (hread : ∀ inp r, read inp r = .ok (a, r)) : ReadsCode read := by
  intro inp r a' q hr h
  obtain rfl : read = fun _ r => .ok (a, r) := funext fun inp => funext (hread inp)
  cases h
  exact ⟨[], ⟨agrees_bitpos_le hr, nofun⟩, decodesAs_ok a⟩

theorem stops (e : Stop) : ReadsCode (α := α) (fun _ _ => .error e) := nofun

/-- Two reads in a row: the codes stand one behind the other. -/
theorem bind {f : List Byte → BitReader → Except Stop (α × BitReader)}
    {g : List Byte → α × BitReader → Except Stop (β × BitReader)} (hf : ReadsCode f)
    (hg : ∀ a, ReadsCode fun inp r => g inp (a, r)) : ReadsCode fun inp r => f inp r >>= g inp := by
  intro inp r b q hr h
  change f inp r >>= g inp = _ at h
  cases hfirst : f inp r with
  | error e =>
    rw [hfirst] at h
    cases h
  | ok y =>
    obtain ⟨a, r₁⟩ := y
    rw [hfirst] at h
    obtain ⟨c, hc, hcode⟩ := hf inp r a r₁ hr hfirst
    obtain ⟨r₁', hsame, hpos, hr₁⟩ := hcode inp r hr hc
    cases hfirst.symm.trans hsame
    obtain ⟨d, hd, hcode'⟩ := hg a inp r₁ b q hr₁ h
    exact ⟨c ++ d, hc.append (hpos ▸ hd), hcode.bind hcode'⟩

/-- R171: another input with the same bits, as far as they were read, gives the same value at the same position. -/
theorem transfer {read : List Byte → BitReader → Except Stop (α × BitReader)} (h : ReadsCode read)
    {inp inp' : List Byte} {r r' q : BitReader} {a : α} (hr : BitReader.Agrees inp r) (hr' : BitReader.Agrees inp' r')
    (hpos : r'.bitpos = r.bitpos) (hread : read inp r = .ok (a, q)) (hsame : SameBits inp inp' q.bitpos) :
    ∃ q', read inp' r' = .ok (a, q') ∧ q'.bitpos = q.bitpos ∧ BitReader.Agrees inp' q' := by
  obtain ⟨c, hc, hcode⟩ := h inp r a q hr hread
  obtain ⟨_, hagain, hq, -⟩ := hcode inp r hr hc
  cases hread.symm.trans hagain
  obtain ⟨q', hread', hq', hagr⟩ := hcode inp' r' hr' (hpos ▸ (hq ▸ hsame).streamHas hc)
  exact ⟨q', hread', by rw [hq', hq, hpos], hagr⟩

end ReadsCode

/-- R101: the code of a raw field is the field. -/
theorem bits_readsCode (n : Nat) : ReadsCode fun inp r => bits inp n r := by
  intro inp r v q hr h
  obtain ⟨hn, -⟩ := bits_ok h
  obtain ⟨rfl, hpos, hq⟩ := bits_ok_of_agrees hr h
  have hfit := agrees_bitpos_le hq
  refine ⟨streamBits inp r.bitpos n, streamHas_streamBits (hpos ▸ hfit), fun inp' r' hr' hs => ?_⟩
  have hval := streamField_of_streamHas hs
  rw [length_streamBits, ← streamField_eq_natOfBits] at hval
  obtain ⟨hend, -⟩ | ⟨-, q', hok, hpos', hq'⟩ := bits_of_agrees hr' hn
  · obtain ⟨hfit', -⟩ := hs
    rw [length_streamBits] at hfit'
    omega
  · exact ⟨q', hval ▸ hok, by rwa [length_streamBits], hq'⟩

/-- What the loop of R123 does with the bit it has read for the length with `c` codes. -/
def loopAfterBit (symbol : List Nat) (c : Nat) (cs : List Nat) (code first index : Nat) (inp : List Byte)
    (y : Nat × BitReader) : Except Stop (Nat × BitReader) :=
  let code := code ||| (y.1 ^^^ 1)
  if code < first + c then
    symbol[index + (code - first)]?.elim (.error .symbolOutOfRange) fun s => .ok (s, y.2)
  else decodeLoop inp symbol cs (code <<< 1) ((first + c) <<< 1) (index + c) y.2

theorem decodeLoop_cons (inp : List Byte) (symbol : List Nat) (c : Nat) (cs : List Nat) (code first index : Nat)
    (r : BitReader) :
    decodeLoop inp symbol (c :: cs) code first index r =
      bits inp 1 r >>= loopAfterBit symbol c cs code first index inp := by
  rw [decodeLoop]
  cases bits inp 1 r with
  | error e => rfl
  | ok y =>
    show _ = loopAfterBit symbol c cs code first index inp y
    unfold loopAfterBit
    dsimp only
    split
    · cases symbol[index + ((code ||| (y.1 ^^^ 1)) - first)]? <;> rfl
    · rfl

theorem decodeLoop_readsCode (symbol counts : List Nat) (code first index : Nat) :
    ReadsCode fun inp r => decodeLoop inp symbol counts code first index r := by
  induction counts generalizing code first index with
  | nil => exact .stops _
  | cons c cs ih =>
    simp only [decodeLoop_cons]
    refine (bits_readsCode 1).bind fun b => ?_
    by_cases hlt : code ||| (b ^^^ 1) < first + c
    · simp only [loopAfterBit, hlt, if_true]
      cases symbol[index + ((code ||| (b ^^^ 1)) - first)]? with
      | none => exact .stops _
      | some s => exact .gives s fun _ _ => rfl
    · simp only [loopAfterBit, hlt, if_false]
      exact ih _ _ _

/-- R8: the check that the symbol found is one of an alphabet of `n`. -/
def boundSymbol (n : Nat) (y : Nat × BitReader) : Except Stop (Fin n × BitReader) :=
  if h : y.1 < n then .ok (⟨y.1, h⟩, y.2) else .error .symbolOutOfRange

theorem boundSymbol_readsCode (n s : Nat) : ReadsCode fun _ r => boundSymbol n (s, r) := by
  by_cases h : s < n
  · simp only [boundSymbol, h, dite_true]
    exact .gives ⟨s, h⟩ fun _ _ => rfl
  · simp only [boundSymbol, h, dite_false]
    exact .stops _

theorem readSymbol_some (n : Nat) (T : HuffmanTable) (inp : List Byte) (r : BitReader) :
    readSymbol n (some T) inp r = decodeSymbol T inp r >>= boundSymbol n := by
  rw [readSymbol]
  cases decodeSymbol T inp r <;> rfl

theorem readSymbol_readsCode (n : Nat) (T : Option HuffmanTable) : ReadsCode fun inp r => readSymbol n T inp r := by
  cases T with
  | none => exact .stops _
  | some T =>
    simp only [readSymbol_some]
    exact (decodeLoop_readsCode T.symbol T.count.toList 0 0 0).bind (boundSymbol_readsCode n)

theorem readHeader_readsCode : ReadsCode readHeader := by
  refine (bits_readsCode 8).bind fun v0 => ?_
  by_cases h : legalLit (BitVec.ofNat 8 v0)
  · simp only [h, if_true]
    exact (bits_readsCode 8).bind fun v1 => .gives (Form.hdr (BitVec.ofNat 8 v0) (BitVec.ofNat 8 v1)) fun _ _ => rfl
  · simp only [h]
    exact .stops _

theorem readLiteral_readsCode (lit : BitVec 1) (T : Option HuffmanTable) : ReadsCode (readLiteral lit T) := by
  unfold readLiteral
  by_cases h : lit = 1
  · simp only [h, if_true]
    exact (readSymbol_readsCode 256 T).bind fun s => .gives (Form.litHuf (BitVec.ofFin s)) fun _ _ => rfl
  · simp only [h, if_false]
    exact (bits_readsCode 8).bind fun b => .gives (Form.litRaw (BitVec.ofNat 8 b)) fun _ _ => rfl

theorem readLength_readsCode (T : Option HuffmanTable) : ReadsCode (readLength T) :=
  (readSymbol_readsCode 16 T).bind fun sym => (bits_readsCode (lengthExtra sym)).bind fun _ => .gives _ fun _ _ => rfl

theorem readDistance_readsCode (k : Nat) (T : Option HuffmanTable) : ReadsCode (readDistance k T) :=
  (readSymbol_readsCode 64 T).bind fun _ => (bits_readsCode k).bind fun _ => .gives _ fun _ _ => rfl

/-- R70 to R76: whatever instruction was read, its code was. -/
theorem readForm_readsCode (ctx : Context) : ReadsCode (readForm ctx) := by
  cases ctx with
  | header => exact readHeader_readsCode
  | distance k T => exact readDistance_readsCode k T
  | unit lit T L =>
    refine (bits_readsCode 1).bind fun flag => ?_
    by_cases h : flag = 0
    · simp only [h, if_true]
      exact readLiteral_readsCode lit T
    · simp only [h, if_false]
      exact readLength_readsCode L

end Sys2Proof.Machine

/-!
PROOF. Bits after END have no effect (43_decoder.md R171): the machine on another input that begins with the same bits,
step by step.
-/
namespace Sys2Proof.Machine

/-- The same decoder over the input `inp`, with the reader `r`. -/
def State.withInput (inp : List Byte) (r : BitReader) (s : State) : State := { s with inp := inp, br := r }

theorem emit_withInput (b : Byte) (inp : List Byte) (r : BitReader) (s : State) :
    emit b (s.withInput inp r) = (emit b s).withInput inp r := rfl

theorem advance_withInput (inp : List Byte) (p q r : BitReader) (s : State) :
    (s.withInput inp r).advance q = (s.advance p).withInput inp q := rfl

/-- Short of a failure, a copy neither reads nor writes the input and the reader. -/
theorem copyBytes_withInput {d n : Nat} {s t : State} (inp : List Byte) (r : BitReader)
    (h : copyBytes d n s = .next t) (ht : t.phase ≠ .failed) :
    copyBytes d n (s.withInput inp r) = .next (t.withInput inp r) := by
  induction n generalizing s with
  | zero =>
    cases h
    rfl
  | succ n ih =>
    rw [copyBytes] at h
    split at h
    · rename_i b hb
      rw [copyBytes_succ_ok (s := s.withInput inp r) hb, emit_withInput]
      exact ih h
    · cases h
      exact absurd rfl ht
    · cases h
    · cases h

theorem takeDistance_withInput {dsym : Fin 64} {x : Nat} {s t : State} (inp : List Byte) (r : BitReader)
    (h : takeDistance dsym x s = .next t) (ht : t.phase ≠ .failed) :
    takeDistance dsym x (s.withInput inp r) = .next (t.withInput inp r) := by
  obtain ⟨n, hn, -⟩ := takeDistance_next h
  cases hfar : distanceTooFar s.sw (distanceOf dsym (distanceExtra n s.dictBits) x) with
  | true =>
    rw [takeDistance_of_far hn hfar] at h
    cases h
    exact absurd rfl ht
  | false =>
    rw [takeDistance_of_near hn hfar] at h
    rw [takeDistance_of_near (s := s.withInput inp r) hn hfar]
    exact copyBytes_withInput inp r h ht

/-- Short of a failure, what an instruction does with its operands read does not depend on the input and the reader. -/
theorem execForm_withInput {f : Form} {s t : State} (inp : List Byte) (r : BitReader) (h : execForm f s = .next t)
    (ht : t.phase ≠ .failed) : execForm f (s.withInput inp r) = .next (t.withInput inp r) := by
  cases f with
  | hdr l k =>
    obtain ⟨-, he⟩ | ⟨hl, hk, he⟩ := takeHeader_cases l k s
    · cases he.symm.trans h
      exact absurd rfl ht
    · cases he.symm.trans h
      exact takeHeader_of_legal hl hk _
  | litRaw b =>
    cases h
    rfl
  | litHuf b =>
    cases h
    rfl
  | matchLength sym x =>
    cases h
    by_cases hend : lengthOf sym x = endLength
    · simp only [execForm, hend, takeLength_end]
      rfl
    · simp only [execForm, takeLength_copy hend]
      rfl
  | endStream =>
    cases h
    rfl
  | matchDist dsym x => exact takeDistance_withInput inp r h ht

/-- R171: a step short of a failure, on another input with the same bits as far as the step read. -/
theorem step_withInput {s t : State} {inp : List Byte} {r : BitReader} (hinv : s.Inv) (h : step s = .next t)
    (ht : t.phase ≠ .failed) (hsame : SameBits s.inp inp t.bitpos) (hr : BitReader.Agrees inp r)
    (hpos : r.bitpos = s.bitpos) :
    ∃ q, step (s.withInput inp r) = .next (t.withInput inp q) ∧ q.bitpos = t.bitpos ∧ BitReader.Agrees inp q := by
  obtain ⟨hrun, -⟩ := step_next h
  obtain ⟨-, hbr, -⟩ := inv_running hinv hrun
  obtain ⟨f, p, hread, hc⟩ := step_completes h ht
  rw [State.bitpos, hc.br_eq] at hsame ⊢
  obtain ⟨q, hread', hq, hagr⟩ := (readForm_readsCode s.context).transfer hbr hr hpos hread hsame
  have hexec := execForm_of_step hread h
  have hstep := step_of_readForm (s := s.withInput inp r) hrun hread'
  rw [advance_withInput inp p] at hstep
  exact ⟨q, hstep.trans (execForm_withInput inp q hexec ht), hq, hagr⟩

/-- R207: a run that ends short of a failure came through no failure. -/
theorem not_failed_of_run {s t : State} {k : Nat} (h : Sys2Proof.core.run k s = .next t) (ht : t.phase ≠ .failed) :
    s.phase ≠ .failed := by
  cases k with
  | zero =>
    cases h
    exact ht
  | succ k =>
    obtain ⟨s', hs, -⟩ := step_of_core_run_succ h
    obtain ⟨hrun, -⟩ := step_next hs
    exact phase_ne_failed_of_running hrun

/-- R22: a run that ends short of a failure does not move the bit position back. -/
theorem bitpos_le_of_run {s t : State} {k : Nat} (hinv : s.Inv) (h : Sys2Proof.core.run k s = .next t)
    (ht : t.phase ≠ .failed) : s.bitpos ≤ t.bitpos := by
  induction k generalizing s with
  | zero =>
    cases h
    exact Nat.le_refl _
  | succ k ih =>
    obtain ⟨s', hs, hrest⟩ := step_of_core_run_succ h
    obtain ⟨hlt, -⟩ := bitPositionMovesForward s s' hinv hs (not_failed_of_run hrest ht)
    exact Nat.le_trans (Nat.le_of_lt hlt) (ih (stepKeepsInvariant s s' hinv hs) hrest)

/-- R171: a run short of a failure, on another input with the same bits as far as the run read. -/
theorem run_withInput {s t : State} {k : Nat} {inp : List Byte} {r : BitReader} (hinv : s.Inv)
    (h : Sys2Proof.core.run k s = .next t) (ht : t.phase ≠ .failed) (hsame : SameBits s.inp inp t.bitpos)
    (hr : BitReader.Agrees inp r) (hpos : r.bitpos = s.bitpos) :
    ∃ q, Sys2Proof.core.run k (s.withInput inp r) = .next (t.withInput inp q) ∧ q.bitpos = t.bitpos := by
  induction k generalizing s r with
  | zero =>
    cases h
    exact ⟨r, rfl, hpos⟩
  | succ k ih =>
    obtain ⟨s', hs, hrest⟩ := step_of_core_run_succ h
    have hinv' := stepKeepsInvariant s s' hinv hs
    obtain ⟨q, hs', hq, hagr⟩ := step_withInput hinv hs (not_failed_of_run hrest ht)
      (hsame.mono (bitpos_le_of_run hinv' hrest ht)) hr hpos
    rw [← inputIsNeverWritten s s' hs] at hsame
    obtain ⟨q', hrun, hq'⟩ := ih hinv' hrest hsame hagr hq
    exact ⟨q', (core_run_succ k hs').trans hrun, hq'⟩

/-- Settles O48: the run on the other input is the same run, with the other reader at the same positions
(`run_withInput`), since every read has read a code (`readForm_readsCode`). -/
theorem bitsAfterEndHaveNoEffect : Obligations.BitsAfterEndHaveNoEffect := by
  intro inp inp' k t h hdone hbits hfit
  obtain ⟨q, hrun, hq⟩ := run_withInput (inv_start inp) h (by simp [hdone]) ⟨hfit, hbits⟩ (agrees_init inp') rfl
  exact ⟨t.withInput inp' q, hrun, hdone, rfl, hq⟩

end Sys2Proof.Machine

/-!
PROOF. Failures (60_exceptions.md R200, R201, R206): what failure entry records, and which failure each part of a step
can take, from any state.
-/
namespace Sys2Proof.Machine

/-- R14: after failure entry the outcome is the failure. -/
@[simp] theorem raise_outcome (e : DecodeError) (s : State) : (raise e s).outcome = some (.error e) := rfl

/-- Settles O32: the rules of `raise`, and the numbers of R200. -/
theorem failureEntryRecordsTheCode : Obligations.FailureEntryRecordsTheCode :=
  fun e s => ⟨raise_phase e s, raise_err e s, raise_inp e s, raise_outcome e s, rfl, rfl, rfl, rfl, raise_code e s⟩

/-- Settles O18: a byte outside its range leaves the one branch of the header step that raises. -/
theorem illegalHeaderRaises : Obligations.IllegalHeaderRaises := by
  intro l k s hbad
  rw [← legalLit_iff, ← legalDictBits_iff] at hbad
  have hraise : exec (.hdr l k) s = .next (raise .invalidHeader s) :=
    (exec_eq_execForm _ s).trans (takeHeader_of_illegal hbad s)
  exact ⟨hraise, raise .invalidHeader s, hraise, rfl, rfl⟩

/-! Which failures a read can take, over every reader and every table. -/

/-- The failures that `x` can end in stand in `es`. -/
def RaisesOnly {α : Type} (es : List DecodeError) (x : Except Stop α) : Prop := ∀ e, x = .error (.raise e) → e ∈ es

namespace RaisesOnly

variable {α β : Type} {es : List DecodeError}

theorem gives (a : α) : RaisesOnly es (.ok a) := nofun

theorem raises {e : DecodeError} (he : e ∈ es) : RaisesOnly (α := α) es (.error (.raise e)) := by
  rintro _ ⟨⟩
  exact he

/-- A stop that is passed on. -/
theorem of_error {x : Except Stop α} {stop : Stop} (hx : RaisesOnly es x) (h : x = .error stop) :
    RaisesOnly (α := β) es (.error stop) := by
  rintro e ⟨⟩
  exact hx e h

theorem bind {x : Except Stop α} {f : α → Except Stop β} (hx : RaisesOnly es x) (hf : ∀ a, RaisesOnly es (f a)) :
    RaisesOnly es (x >>= f) := by
  cases x with
  | error stop => exact hx.of_error rfl
  | ok a => exact hf a

end RaisesOnly

section
variable {es : List DecodeError} (inp : List Byte) (r : BitReader)

/-- R103: the refill fails at the end of the input alone. -/
theorem refill_raisesOnly (n fuel : Nat) (hend : .unexpectedEndOfInput ∈ es) :
    RaisesOnly es (refill inp n fuel r) := by
  induction fuel generalizing r with
  | zero => exact .gives r
  | succ fuel ih =>
    rw [refill]
    split
    · split
      · exact .raises hend
      · exact ih _
    · exact .gives r

/-- R101, R103: so does a request for bits. -/
theorem bits_raisesOnly (n : Nat) (hend : .unexpectedEndOfInput ∈ es) : RaisesOnly es (bits inp n r) := by
  rw [bits]
  split
  · exact nofun
  · split
    · rename_i hrefill
      exact (refill_raisesOnly inp r n 2 hend).of_error hrefill
    · exact .gives _

/-- R123, R124: the loop of a symbol decode asks for bits, and fails itself after the last count. -/
theorem decodeLoop_raisesOnly (symbol counts : List Nat) (code first index : Nat)
    (hend : .unexpectedEndOfInput ∈ es) (hcode : .invalidHuffmanCode ∈ es) :
    RaisesOnly es (decodeLoop inp symbol counts code first index r) := by
  induction counts generalizing code first index r with
  | nil => exact .raises hcode
  | cons c cs ih =>
    rw [decodeLoop]
    split
    · rename_i hbit
      exact (bits_raisesOnly inp r 1 hend).of_error hbit
    · dsimp only
      split
      · split
        · exact .gives _
        · exact nofun
      · exact ih _ _ _ _

theorem readSymbol_raisesOnly (n : Nat) (T : Option HuffmanTable) (hend : .unexpectedEndOfInput ∈ es)
    (hcode : .invalidHuffmanCode ∈ es) : RaisesOnly es (readSymbol n T inp r) := by
  cases T with
  | none => exact nofun
  | some T =>
    rw [readSymbol]
    split
    · rename_i hdecode
      exact (decodeLoop_raisesOnly inp r T.symbol T.count.toList 0 0 0 hend hcode).of_error hdecode
    · split
      · exact .gives _
      · exact nofun

/-- R161: the header bytes. -/
theorem readHeader_raisesOnly : RaisesOnly [.unexpectedEndOfInput, .invalidHeader] (readHeader inp r) := by
  refine (bits_raisesOnly inp r 8 (by simp)).bind fun (v0, r) => ?_
  dsimp only
  split
  · exact (bits_raisesOnly inp r 8 (by simp)).bind fun _ => .gives _
  · exact .raises (by simp)

theorem readLiteral_raisesOnly (lit : BitVec 1) (T : Option HuffmanTable) (hend : .unexpectedEndOfInput ∈ es)
    (hcode : .invalidHuffmanCode ∈ es) : RaisesOnly es (readLiteral lit T inp r) := by
  rw [readLiteral]
  split
  · exact (readSymbol_raisesOnly inp r 256 T hend hcode).bind fun _ => .gives _
  · exact (bits_raisesOnly inp r 8 hend).bind fun _ => .gives _

theorem readLength_raisesOnly (T : Option HuffmanTable) (hend : .unexpectedEndOfInput ∈ es)
    (hcode : .invalidHuffmanCode ∈ es) : RaisesOnly es (readLength T inp r) :=
  (readSymbol_raisesOnly inp r 16 T hend hcode).bind fun (sym, r) =>
    (bits_raisesOnly inp r (lengthExtra sym) hend).bind fun _ => .gives _

theorem readDistance_raisesOnly (k : Nat) (T : Option HuffmanTable) (hend : .unexpectedEndOfInput ∈ es)
    (hcode : .invalidHuffmanCode ∈ es) : RaisesOnly es (readDistance k T inp r) :=
  (readSymbol_raisesOnly inp r 64 T hend hcode).bind fun (_, r) =>
    (bits_raisesOnly inp r k hend).bind fun _ => .gives _

/-- R200: behind the header, no read finds the header illegal. -/
theorem readForm_raisesOnly {ctx : Context} (hctx : ctx ≠ .header) :
    RaisesOnly [.unexpectedEndOfInput, .invalidHuffmanCode] (readForm ctx inp r) := by
  cases ctx with
  | header => exact absurd rfl hctx
  | unit lit T L =>
    refine (bits_raisesOnly inp r 1 (by simp)).bind fun (flag, r) => ?_
    dsimp only
    split
    · exact readLiteral_raisesOnly inp r lit T (by simp) (by simp)
    · exact readLength_raisesOnly inp r L (by simp) (by simp)
  | distance k T => exact readDistance_raisesOnly inp r k T (by simp) (by simp)

end

/-! Which failures a step can take. -/

/-- R200: the failure `e` and the place it is raised at: any read, the header, a symbol decode, or a distance. -/
inductive RaisedBy (s : State) : DecodeError → Prop where
  | reading : RaisedBy s .unexpectedEndOfInput
  | header (hphase : s.phase = .readHeader) : RaisedBy s .invalidHeader
  | symbol (hphase : s.phase = .decodeLoop) : RaisedBy s .invalidHuffmanCode
  | distance (hphase : s.phase = .decodeLoop) (hpending : s.matchLen ≠ none) : RaisedBy s .corruptStream

/-- A failure of the reading, by the phase. -/
theorem raisedBy_of_readForm {s : State} {e : DecodeError} (hrun : s.running = true)
    (h : readForm s.context s.inp s.br = .error (.raise e)) : RaisedBy s e := by
  obtain hphase | hphase := running_iff.mp hrun
  · rw [context_of_readHeader hphase] at h
    obtain rfl | rfl : e = _ ∨ e = _ := by simpa using readHeader_raisesOnly s.inp s.br e h
    · exact .reading
    · exact .header hphase
  · have hctx : s.context ≠ .header := by
      cases hm : s.matchLen with
      | none => simp [context_of_boundary hphase hm]
      | some n => simp [context_of_pending hphase hm]
    obtain rfl | rfl : e = _ ∨ e = _ := by simpa using readForm_raisesOnly s.inp s.br hctx e h
    · exact .reading
    · exact .symbol hphase

/-- R201 and R204: the shapes that can take a failure, and which. -/
theorem execForm_failed {f : Form} {s t : State} (h : execForm f s = .next t) (hs : s.phase ≠ .failed)
    (ht : t.phase = .failed) :
    (∃ l k, f = .hdr l k ∧ t.err = some .invalidHeader) ∨
    (∃ dsym x, f = .matchDist dsym x ∧ s.matchLen ≠ none ∧ t.err = some .corruptStream) := by
  cases f with
  | hdr l k =>
    obtain ⟨-, he⟩ | ⟨-, -, he⟩ := takeHeader_cases l k s
    · cases he.symm.trans h
      exact .inl ⟨l, k, rfl, rfl⟩
    · cases he.symm.trans h
      cases ht
  | litRaw b | litHuf b =>
    cases h
    exact absurd ht hs
  | matchLength sym x =>
    cases h
    by_cases hend : lengthOf sym x = endLength
    · rw [hend, takeLength_end] at ht
      cases ht
    · rw [takeLength_copy hend] at ht
      exact absurd ht hs
  | endStream =>
    cases h
    cases ht
  | matchDist dsym x =>
    obtain ⟨n, hn, ⟨-, herr, -⟩ | ⟨bs, sw, -, rfl, -⟩⟩ := takeDistance_next h
    · exact .inr ⟨dsym, x, rfl, by simp [hn], herr⟩
    · exact absurd ht hs

/-- R200: a step that fails records a failure raised by the reading, or by what was read. -/
theorem raisedBy_of_step {s t : State} (h : step s = .next t) (ht : t.phase = .failed) :
    ∃ e, t.err = some e ∧ RaisedBy s e := by
  obtain ⟨hrun, ⟨e, hfetch, rfl⟩ | ⟨i, r, hfetch, -⟩⟩ := step_next h
  · exact ⟨e, raise_err e s, raisedBy_of_readForm hrun (readForm_of_fetch_error hfetch)⟩
  · obtain ⟨f, hread, -⟩ := decode_ok hfetch
    obtain ⟨l, k, rfl, herr⟩ | ⟨dsym, x, rfl, hpending, herr⟩ :=
      execForm_failed (execForm_of_step hread h) (phase_ne_failed_of_running hrun) ht
    · obtain ⟨hphase, -⟩ := (readForm_by_phase hrun hread).resolve_right (by simp)
      exact ⟨_, herr, .header hphase⟩
    · obtain ⟨hphase, -⟩ := (readForm_by_phase hrun hread).resolve_left (by simp)
      exact ⟨_, herr, .distance hphase hpending⟩

/-- Settles O34: each failure is raised at its place (`raisedBy_of_step`). -/
theorem failuresComeFromTheirUnits : Obligations.FailuresComeFromTheirUnits := by
  intro s t h ht
  obtain ⟨e, herr, hraised⟩ := raisedBy_of_step h ht
  refine ⟨e, herr, ?_⟩
  cases hraised with
  | reading => exact ⟨nofun, nofun, nofun⟩
  | header hphase => exact ⟨fun _ => hphase, nofun, nofun⟩
  | symbol hphase => exact ⟨nofun, fun _ => hphase, nofun⟩
  | distance hphase hpending => exact ⟨nofun, nofun, fun _ => ⟨hphase, hpending⟩⟩

end Sys2Proof.Machine

/-!
PROOF. The DIST row's own condition (opcode_table.json, log entry 12): where no match length is pending, every row of
that shape is refused, whatever the distance it carries.
-/
namespace Sys2Proof.Machine

/-- Log entry 12: the branch of `takeDistance` outside a match, beside `takeDistance_of_near` and
`takeDistance_of_far` inside one. -/
theorem takeDistance_of_no_match {s : State} (dsym : Fin 64) (x : Nat) (hnone : s.matchLen = none) :
    takeDistance dsym x s = .refused .noMatchInProgress := by
  simp [takeDistance, hnone]

/-- Settles O31: a DIST row means what its shape does (`exec_eq_execForm`), and that asks for a pending length first. -/
theorem distanceOutsideMatchRefused : Obligations.DistanceOutsideMatchRefused := by
  intro i dsym x s hform hnone
  calc exec i s = execForm i.form s := exec_eq_execForm i s
    _ = takeDistance dsym x s := by rw [hform, execForm]
    _ = .refused .noMatchInProgress := takeDistance_of_no_match dsym x hnone

end Sys2Proof.Machine
